-- ==== Sys2Proof/Word.lean ====
section
/-! DEFINITION. The word types of DMXCORE: a byte (a channel value, a packet byte), the 16-bit and 32-bit operands,
the 64-bit tick counts (spec 00_scope.md R9). -/

namespace Sys2Proof

/-- `u8`: a channel value or one byte of a packet, a frame or a response (00_scope.md R9, 10_state.md R20). -/
abbrev Byte := BitVec 8

/-- `u16` or `i16`: an address or value operand (30_encoding.md R97); an `i16` is read with `BitVec.toInt`. -/
abbrev Half := BitVec 16

/-- `u32`: the frequency and duration operands and `PHASECNT` (30_encoding.md R99, 10_state.md R40). -/
abbrev Word := BitVec 32

/-- `u64`: `NOW` and the registers compared with it (10_state.md R29, R36 to R39). -/
abbrev Ticks := BitVec 64

end Sys2Proof
end

