-- ==== Sys2Proof/Config.lean ====
section
/-! DEFINITION. What an implementation fixes (TICK_HZ and NVIEW, 00_scope.md R8) and what the environment leaves
free: the transport's reply to each write (60_exceptions.md R247, 93_implementation_defined.md U2, U3, U21). -/

namespace Sys2Proof

/-- The two named parameters of the model (00_scope.md R8). -/
structure Config where
  /-- TICK_HZ, ticks of the time base per second. -/
  tickHz : Nat
  /-- NVIEW, slots of the fixture-view file. -/
  nview  : Nat
  deriving DecidableEq, Repr

/-- The defaults of 00_scope.md section 5: TICK_HZ = 1 000 000, NVIEW = 4. -/
def Config.default : Config := { tickHz := 1000000, nview := 4 }

/-- The bounds the spec puts on the parameters: TICK_HZ a positive multiple of 1000 of at most 10^9, NVIEW in 1..256
(00_scope.md section 5, 92_eei_decisions.md D8 and D14). -/
def Config.ok (c : Config) : Bool :=
  decide (0 < c.tickHz) && decide (c.tickHz % 1000 = 0) && decide (c.tickHz ≤ 1000000000) &&
    decide (1 ≤ c.nview) && decide (c.nview ≤ 256)

/-- The transport's answer to one write: `write(bytes) -> count|error` (60_exceptions.md R247, R249). -/
inductive TxAnswer where
  /-- `Ok(count)`: that many bytes were accepted. -/
  | ok (count : Nat)
  /-- `Err`: the write failed. -/
  | err
  deriving DecidableEq, Repr, Inhabited

/-- What the environment does with one write: it answers after some ticks (93_implementation_defined.md U2, U3), or
the write never returns (U21, 70_reset_and_hazards.md R275). -/
inductive TxReply where
  /-- The write returns `answer` after `ticks` ticks. -/
  | answered (answer : TxAnswer) (ticks : Nat)
  /-- The write never returns. -/
  | never
  deriving DecidableEq, Repr, Inhabited

/-- The FREE VALUE of the transport: its reply to the n-th write for which the state lists no reply. It has no body,
so nothing can be proved about it (log entry 2). -/
opaque Config.freeReply : Nat → TxReply

end Sys2Proof
end

