-- ==== Sys2Proof/Machine/Memory.lean ====
section
/-! DEFINITION. A file of 512 channel registers (the universe and the three snapshots; 10_state.md R20, R25; 20_memory.md
R60, R61) as a list of cells in one canonical form: addresses strictly rising in 1..512, no cell equal to what an
unlisted address reads as. -/

namespace Sys2Proof.Machine

/-- The number of channels, NCHAN (00_scope.md section 5, 10_state.md R20). -/
def nchan : Nat := 512

/-- A channel file: cells (channel, value). -/
abbrev Memory := List Host.Cell

/-- What an unlisted channel reads as: the reset contents of every file (10_state.md R22, R25, R44). -/
def Memory.unlisted : Byte := 0#8

/-- Read channel `c` (00_scope.md R11, `U[c]`). -/
def Memory.read : Memory → Nat → Byte
  | [], _ => Memory.unlisted
  | (a, b) :: m, c => if a = c then b else Memory.read m c

/-- Remove every cell of channel `c`. -/
def Memory.erase : Memory → Nat → Memory
  | [], _ => []
  | (a, b) :: m, c => if a = c then Memory.erase m c else (a, b) :: Memory.erase m c

/-- Put a cell before the first cell of a larger address. -/
def Memory.insert : Memory → Nat → Byte → Memory
  | [], c, v => [(c, v)]
  | (a, b) :: m, c, v => if c < a then (c, v) :: (a, b) :: m else (a, b) :: Memory.insert m c v

/-- Write `v` to channel `c` (00_scope.md R11, `U[c] <- v`); writing what an unlisted channel reads as removes the
cell. -/
def Memory.write (m : Memory) (c : Nat) (v : Byte) : Memory :=
  if v = Memory.unlisted then Memory.erase m c else Memory.insert (Memory.erase m c) c v

/-- `MemWrite(c, n, bytes)` (00_scope.md R11): consecutive channels from `c`. -/
def Memory.writeAll : Memory → Nat → List Byte → Memory
  | m, _, [] => m
  | m, c, v :: vs => Memory.writeAll (Memory.write m c v) (c + 1) vs

/-- `MemRead(c, n)` (00_scope.md R11): the `n` channels from `c`. -/
def Memory.readAll (m : Memory) : Nat → Nat → List Byte
  | _, 0 => []
  | c, n + 1 => Memory.read m c :: Memory.readAll m (c + 1) n

/-- Strictly rising addresses from `lo` up to 512, no cell equal to the unlisted value. -/
def Memory.wfFrom (lo : Nat) : Memory → Bool
  | [] => true
  | (a, b) :: m => decide (lo ≤ a) && decide (a ≤ nchan) && decide (b ≠ Memory.unlisted) && Memory.wfFrom (a + 1) m

/-- The canonical form of a channel file: every cell in 1..512 (10_state.md R21, 20_memory.md R61), so that equal
files are equal data. -/
def Memory.wf (m : Memory) : Bool := Memory.wfFrom 1 m

end Sys2Proof.Machine
end

