-- ==== Sys2Proof/Machine/State.lean ====
section
/-! DEFINITION. The state of DMXCORE as plain data (10_state.md R44), with the observation lists (00_scope.md R12) and
the environment's free inputs (HOST's moves and the transport's replies), and the state after reset. -/

namespace Sys2Proof.Machine

/-- A slot of the fixture-view file: `VSTART`, `VCOUNT`, `VVALID` (10_state.md R26). -/
structure View where
  /-- `VSTART[v]`, 10 bits. -/
  start : BitVec 10
  /-- `VCOUNT[v]`, 10 bits. -/
  count : BitVec 10
  /-- `VVALID[v]`. -/
  valid : Bool
  deriving DecidableEq, Repr

/-- A slot never built: all zero, not valid (10_state.md R26, R44). -/
def View.empty : View := { start := 0#10, count := 0#10, valid := false }

/-- The cause of a TransmitError (60_exceptions.md R250). -/
inductive TxCause where
  /-- 0: the handle is closed, no write was attempted. -/
  | closed
  /-- 1: the transport answered `Err`. -/
  | writeError
  /-- 2: the transport answered `Ok(k)` with `k` other than 518. -/
  | shortWrite
  deriving DecidableEq, Repr

/-- The two ends of a run that a successful final frame gives (43_oscillator.md R202). -/
inductive RunEnd where
  /-- The duration elapsed: Completed. -/
  | completed
  /-- Cancellation was observed: Stopped. -/
  | stopped
  deriving DecidableEq, Repr

/-- Where the loop of a run stands: the step the sequencer makes next (43_oscillator.md R198 to R203; log entry 6). -/
inductive LoopPos where
  /-- R198, the top of an iteration. -/
  | top
  /-- R199, the phase transmission. -/
  | phase
  /-- R200, the sleep. -/
  | sleep
  /-- R201, the flip. -/
  | flip
  /-- R202, the final frame of a run that ends as the argument says. -/
  | finish (e : RunEnd)
  /-- R203, the fail path, with the cause of the phase frame's failure. -/
  | fail (c : TxCause)
  deriving DecidableEq, Repr

/-- `OSC_STATE` (10_state.md R33, 43_oscillator.md R190). -/
inductive OscState where
  /-- 0: no transmissions occurring; the state after reset. -/
  | idle
  /-- 1: the loop is active and stands at `pos`. -/
  | running (pos : LoopPos)
  /-- 2: the run ended because cancellation was observed. -/
  | stopped
  /-- 3: the run ended because the duration elapsed. -/
  | completed
  /-- 4: the run ended because a transmission failed. -/
  | failed
  deriving DecidableEq, Repr

/-- The status byte of a response (30_encoding.md R104). -/
inductive Status where
  /-- 0x00. -/
  | ok
  /-- 0x01. -/
  | encodingError
  /-- 0x02. -/
  | outOfRangeError
  /-- 0x03. -/
  | transmitError
  /-- 0x04: reserved, never sent by this block (60_exceptions.md R234). -/
  | framingError
  /-- 0xFF. -/
  | illegalCommand
  deriving DecidableEq, Repr

/-- One response: status and data (30_encoding.md R103). -/
structure Response where
  /-- The status. -/
  status : Status
  /-- The data bytes. -/
  data : List Byte
  deriving DecidableEq, Repr

/-- One entry of `tx_log` (00_scope.md R12). -/
inductive TxEvent where
  /-- The bytes of one write and the transport's answer. -/
  | write (bytes : List Byte) (answer : TxAnswer)
  /-- The release of the handle. -/
  | close
  deriving DecidableEq, Repr

/-- One move of HOST (00_scope.md R14, 70_reset_and_hazards.md R275, R276; log entry 1). -/
inductive HostMove where
  /-- Present one packet; HOST waits for the port to be free, and for the response before its next packet. -/
  | packet (bytes : List Byte)
  /-- Do nothing for that many ticks. -/
  | wait (ticks : Nat)
  /-- Do nothing until the block has made its next move, however many ticks that takes, also none. -/
  | pass
  /-- Raise the cancel request. -/
  | cancel
  /-- Assert the reset input. -/
  | reset
  deriving DecidableEq, Repr

/-- The whole state. -/
structure State where
  /-- The universe `U[1..512]` (10_state.md R20). -/
  u : Memory
  /-- The `ON` snapshot (R25). -/
  snapOn : Memory
  /-- The `OFF` snapshot (R25). -/
  snapOff : Memory
  /-- The `SAFE` snapshot (R25). -/
  snapSafe : Memory
  /-- The fixture-view file; its length is NVIEW (R26). -/
  views : List View
  /-- `TP_OPEN` (R28). -/
  tpOpen : Bool
  /-- `NOW` (R29). -/
  now : Ticks
  /-- `OSC_STATE` (R33), with the loop's position while Running. -/
  osc : OscState
  /-- `PHASE` (R34): true is ON, false is OFF. -/
  phase : Bool
  /-- `CANCEL` (R35). -/
  cancel : Bool
  /-- `HALF` (R36). -/
  half : Ticks
  /-- `DUR` (R37). -/
  dur : Ticks
  /-- `T0` (R38). -/
  t0 : Ticks
  /-- `TITER` (R39). -/
  titer : Ticks
  /-- `PHASECNT` (R40). -/
  phaseCnt : Word
  /-- `E_ENC` (R31). -/
  eEnc : Bool
  /-- `E_OOR` (R31). -/
  eOor : Bool
  /-- `E_TX` (R31). -/
  eTx : Bool
  /-- `E_ILL` (R31). -/
  eIll : Bool
  /-- The block waits for ever inside a write the transport never answers (70_reset_and_hazards.md R275). -/
  hung : Bool
  /-- `tx_log`, oldest first (00_scope.md R12); observation, never read by the block. -/
  txLog : List TxEvent
  /-- `resp_log`, oldest first (00_scope.md R12); observation, never read by the block. -/
  respLog : List Response
  /-- The parameter TICK_HZ (00_scope.md R8; log entry 4); no step changes it. -/
  tickHz : Nat
  /-- The MODEL's own: what HOST does next (log entry 1). -/
  host : List HostMove
  /-- The MODEL's own: how the transport replies to the next writes (log entry 2). -/
  replies : List TxReply
  /-- The MODEL's own: how many replies were taken from `Config.freeReply` (log entry 2). -/
  drawn : Nat
  deriving DecidableEq, Repr

/-- Reasons a step stops with a fault. There is none: every error of this block is a response to HOST, and every step
answers a next state (60_exceptions.md, opening; R236). -/
inductive Fault
  deriving DecidableEq, Repr

/-- Reasons a step refuses. -/
inductive Refusal where
  /-- Raised by `exec` for a command that has no meaning yet, by its mnemonic; safe. No arm raises it now. -/
  | notModelled (mnemonic : String)
  deriving DecidableEq, Repr

/-- The state of 10_state.md R44 for given parameters, with no move of HOST and no reply of the transport listed. -/
def State.resetWith (c : Config) : State :=
  { u := [], snapOn := [], snapOff := [], snapSafe := []
    views := List.replicate c.nview View.empty
    tpOpen := true
    now := 0#64
    osc := .idle, phase := false, cancel := false
    half := 0#64, dur := 0#64, t0 := 0#64, titer := 0#64, phaseCnt := 0#32
    eEnc := false, eOor := false, eTx := false, eIll := false
    hung := false
    txLog := [], respLog := []
    tickHz := c.tickHz
    host := [], replies := [], drawn := 0 }

/-- The machine right after reset, with the default parameters (10_state.md R44, 00_scope.md section 5). -/
def State.reset : State := State.resetWith Config.default

end Sys2Proof.Machine
end

