-- ==== Sys2Proof/Machine/Flags.lean ====
section
/-! DEFINITION. The flags of the block: the numeric codes of OSC_STATE, the status and the causes, the sticky error bits
and the status register SR (10_state.md R30 to R33; 30_encoding.md R104; 60_exceptions.md R250). -/

namespace Sys2Proof.Machine

/-- Whether the oscillator is Running: the oscillator-owned mode (60_exceptions.md R245). -/
def OscState.isRunning : OscState → Bool
  | .idle => false
  | .running _ => true
  | .stopped => false
  | .completed => false
  | .failed => false

/-- The 3-bit code of OSC_STATE (10_state.md R33). -/
def OscState.code : OscState → BitVec 3
  | .idle => 0#3
  | .running _ => 1#3
  | .stopped => 2#3
  | .completed => 3#3
  | .failed => 4#3

/-- The terminal state of a run's end (43_oscillator.md R190, R202). -/
def RunEnd.osc : RunEnd → OscState
  | .completed => .completed
  | .stopped => .stopped

/-- The state byte of STROBE's response: 2 Stopped, 3 Completed (30_encoding.md R105). -/
def RunEnd.byte : RunEnd → Byte
  | .completed => 3#8
  | .stopped => 2#8

/-- The cause byte of a TransmitError (60_exceptions.md R250). -/
def TxCause.byte : TxCause → Byte
  | .closed => 0#8
  | .writeError => 1#8
  | .shortWrite => 2#8

/-- The status byte (30_encoding.md R104). -/
def Status.byte : Status → Byte
  | .ok => 0x00#8
  | .encodingError => 0x01#8
  | .outOfRangeError => 0x02#8
  | .transmitError => 0x03#8
  | .framingError => 0x04#8
  | .illegalCommand => 0xFF#8

/-- Set the sticky bit of an error status; OK and the reserved FramingError have none (10_state.md R31). -/
def State.setSticky (e : Status) (s : State) : State :=
  match e with
  | .ok => s
  | .encodingError => { s with eEnc := true }
  | .outOfRangeError => { s with eOor := true }
  | .transmitError => { s with eTx := true }
  | .framingError => s
  | .illegalCommand => { s with eIll := true }

/-- The status register: a view of the flags, bits 15:12 and 7:6 reserved and 0 (10_state.md R32). -/
def State.sr (s : State) : BitVec 16 :=
  0#4 ++ BitVec.ofBool s.eIll ++ BitVec.ofBool s.eTx ++ BitVec.ofBool s.eOor ++ BitVec.ofBool s.eEnc ++ 0#2 ++
    BitVec.ofBool s.cancel ++ BitVec.ofBool s.tpOpen ++ BitVec.ofBool s.phase ++ s.osc.code

end Sys2Proof.Machine
end

