-- ==== Sys2Proof/Syntax.lean ====
section
/-! DEFINITION. The commands of DMXCORE, one constructor per row of spec/opcode_table.json (30_encoding.md R100). The
operands are those of the formats of R99, in packet order; the count `n` of ENCODE and SETRNG is the number of elements
(R106). -/

namespace Sys2Proof

/-- A command (the spec's word for an instruction, 00_scope.md section 8). -/
inductive Instr where
  /-- ENCODE, 0x10, format FE (40_frame_codec.md R121). -/
  | encode (data : List Byte)
  /-- SETCH, 0x20, format FIV (41_universe_buffer.md R141). -/
  | setch (index value : Half)
  /-- GETCH, 0x21, format FI (41_universe_buffer.md R142). -/
  | getch (index : Half)
  /-- SETRNG, 0x22, format FR (41_universe_buffer.md R143). -/
  | setrng (start : Half) (values : List Half)
  /-- TRANSMIT, 0x23, format F0 (41_universe_buffer.md R148). -/
  | transmit
  /-- CLOSE, 0x24, format F0 (41_universe_buffer.md R149). -/
  | close
  /-- VIEW, 0x28, format FW (41_universe_buffer.md R144). -/
  | view (v : Byte) (start count : Half)
  /-- VSET, 0x29, format FVV (41_universe_buffer.md R145). -/
  | vset (v : Byte) (off value : Half)
  /-- VGET, 0x2A, format FVO (41_universe_buffer.md R146). -/
  | vget (v : Byte) (off : Half)
  /-- DIMMER, 0x30, format FIV (42_fixture_map.md R172). -/
  | dimmer (base value : Half)
  /-- RED, 0x31, format FIV (42_fixture_map.md R173). -/
  | red (base value : Half)
  /-- GREEN, 0x32, format FIV (42_fixture_map.md R174). -/
  | green (base value : Half)
  /-- BLUE, 0x33, format FIV (42_fixture_map.md R175). -/
  | blue (base value : Half)
  /-- STROBERATE, 0x34, format FIV (42_fixture_map.md R176). -/
  | stroberate (base value : Half)
  /-- PROGRAM, 0x35, format FIV (42_fixture_map.md R177). -/
  | program (base value : Half)
  /-- SETRGB, 0x36, format FC (42_fixture_map.md R178). -/
  | setrgb (base r g b : Half)
  /-- ARMON, 0x40, format F0 (43_oscillator.md R191). -/
  | armon
  /-- ARMOFF, 0x41, format F0 (43_oscillator.md R192). -/
  | armoff
  /-- ARMSAFE, 0x42, format F0 (43_oscillator.md R193). -/
  | armsafe
  /-- CLRSAFE, 0x43, format F0 (43_oscillator.md R194). -/
  | clrsafe
  /-- STROBE, 0x44, format FS (43_oscillator.md R195, R196). -/
  | strobe (freqMhz durMs : Word) (phase0 : Byte)
  /-- RDSR, 0x45, format F0 (43_oscillator.md R208). -/
  | rdsr
  deriving DecidableEq, Repr

end Sys2Proof
end

