-- ==== Sys2Proof/WellFormed.lean ====
section
/-! DEFINITION. Which terms of `Instr` a packet can carry: the element counts of ENCODE and SETRNG are `u16` operands
(30_encoding.md R97, R101); every other operand is of the width its type gives. -/

namespace Sys2Proof

/-- The check of a command as syntax: the count `n` of ENCODE and SETRNG fits the `u16` operand (30_encoding.md R99,
R101). A count above 512 is well formed; it raises its error when executed. -/
def Instr.wellFormed : Instr → Bool
  | .encode data => decide (data.length ≤ 65535)
  | .setrng _ values => decide (values.length ≤ 65535)
  | .setch _ _ => true
  | .getch _ => true
  | .transmit => true
  | .close => true
  | .view _ _ _ => true
  | .vset _ _ _ => true
  | .vget _ _ => true
  | .dimmer _ _ => true
  | .red _ _ => true
  | .green _ _ => true
  | .blue _ _ => true
  | .stroberate _ _ => true
  | .program _ _ => true
  | .setrgb _ _ _ _ => true
  | .armon => true
  | .armoff => true
  | .armsafe => true
  | .clrsafe => true
  | .strobe _ _ _ => true
  | .rdsr => true

end Sys2Proof
end

