-- ==== Sys2Proof/Decode.lean ====
section
/-! DEFINITION. Decoding a command packet (30_encoding.md R96 to R102) and the encoder written from the same tables.
The byte-order helpers stand here too (R66, R67, R97). -/

namespace Sys2Proof

/-! ### Byte order: every multi-byte field is little-endian (R66, R67, R97) -/

/-- `u16` from its bytes: the low byte comes first in the packet (R97). -/
def u16 (lo hi : Byte) : Half := hi ++ lo

/-- `u32` from its bytes, least significant first (R97). -/
def u32 (b0 b1 b2 b3 : Byte) : Word := (b3 ++ b2 : Half) ++ (b1 ++ b0 : Half)

/-- `le16(v)`: the bytes `v[7:0], v[15:8]` (00_scope.md R11). -/
def le16 (v : Half) : List Byte := [v.extractLsb' 0 8, v.extractLsb' 8 8]

/-- `le32(v)`: four bytes, least significant first (00_scope.md R11). -/
def le32 (v : Word) : List Byte :=
  [v.extractLsb' 0 8, v.extractLsb' 8 8, v.extractLsb' 16 8, v.extractLsb' 24 8]

/-- `le16` of each element in order: the `values` of SETRNG (R99). -/
def le16s : List Half → List Byte
  | [] => []
  | v :: vs => le16 v ++ le16s vs

/-- The `u16` elements of a byte sequence; an odd last byte is no element (R99, R101 refuses it by its length). -/
def halves : List Byte → List Half
  | lo :: hi :: rest => u16 lo hi :: halves rest
  | _ => []

/-! ### Decoding -/

/-- Why a packet is no command; each is answered with IllegalCommand (60_exceptions.md R235). -/
inductive Illegal where
  /-- The packet is empty (30_encoding.md R102). -/
  | emptyPacket
  /-- Byte 0 is not an opcode of the table (30_encoding.md R102). -/
  | illegalOpcode
  /-- The packet's length is not the length its format gives (30_encoding.md R101). -/
  | wrongLength
  deriving DecidableEq, Repr

/-- Format F0: no operands (R99). -/
def parseF0 (i : Instr) : List Byte → Except Illegal Instr
  | [] => .ok i
  | _ => .error .wrongLength

/-- Format FI: index u16 (R99). -/
def parseFI (k : Half → Instr) : List Byte → Except Illegal Instr
  | [i0, i1] => .ok (k (u16 i0 i1))
  | _ => .error .wrongLength

/-- Format FIV: index (or base) u16, value i16 (R99). -/
def parseFIV (k : Half → Half → Instr) : List Byte → Except Illegal Instr
  | [i0, i1, v0, v1] => .ok (k (u16 i0 i1) (u16 v0 v1))
  | _ => .error .wrongLength

/-- Format FR: start u16, n u16, then n values i16; the length is 5 + 2n (R99, R101). -/
def parseFR (k : Half → List Half → Instr) : List Byte → Except Illegal Instr
  | s0 :: s1 :: n0 :: n1 :: vals =>
    if vals.length = 2 * (u16 n0 n1).toNat then .ok (k (u16 s0 s1) (halves vals)) else .error .wrongLength
  | _ => .error .wrongLength

/-- Format FE: n u16, then n data bytes; the length is 3 + n (R99, R101). -/
def parseFE (k : List Byte → Instr) : List Byte → Except Illegal Instr
  | n0 :: n1 :: data => if data.length = (u16 n0 n1).toNat then .ok (k data) else .error .wrongLength
  | _ => .error .wrongLength

/-- Format FW: v u8, start u16, count u16 (R99). -/
def parseFW (k : Byte → Half → Half → Instr) : List Byte → Except Illegal Instr
  | [v, s0, s1, c0, c1] => .ok (k v (u16 s0 s1) (u16 c0 c1))
  | _ => .error .wrongLength

/-- Format FVV: v u8, off u16, value i16 (R99). -/
def parseFVV (k : Byte → Half → Half → Instr) : List Byte → Except Illegal Instr
  | [v, o0, o1, v0, v1] => .ok (k v (u16 o0 o1) (u16 v0 v1))
  | _ => .error .wrongLength

/-- Format FVO: v u8, off u16 (R99). -/
def parseFVO (k : Byte → Half → Instr) : List Byte → Except Illegal Instr
  | [v, o0, o1] => .ok (k v (u16 o0 o1))
  | _ => .error .wrongLength

/-- Format FC: base u16, then r, g, b i16 (R99). -/
def parseFC (k : Half → Half → Half → Half → Instr) : List Byte → Except Illegal Instr
  | [a0, a1, r0, r1, g0, g1, b0, b1] => .ok (k (u16 a0 a1) (u16 r0 r1) (u16 g0 g1) (u16 b0 b1))
  | _ => .error .wrongLength

/-- Format FS: freq_mhz u32, dur_ms u32, phase0 u8 (R99). -/
def parseFS (k : Word → Word → Byte → Instr) : List Byte → Except Illegal Instr
  | [f0, f1, f2, f3, d0, d1, d2, d3, p] => .ok (k (u32 f0 f1 f2 f3) (u32 d0 d1 d2 d3) p)
  | _ => .error .wrongLength

/-- The opcode map of 30_encoding.md R100: byte 0 fixes the command and its format; every other byte is illegal
(R102). -/
def decodeOp (op : Byte) (operands : List Byte) : Except Illegal Instr :=
  match op with
  | 0x10#8 => parseFE .encode operands
  | 0x20#8 => parseFIV .setch operands
  | 0x21#8 => parseFI .getch operands
  | 0x22#8 => parseFR .setrng operands
  | 0x23#8 => parseF0 .transmit operands
  | 0x24#8 => parseF0 .close operands
  | 0x28#8 => parseFW .view operands
  | 0x29#8 => parseFVV .vset operands
  | 0x2A#8 => parseFVO .vget operands
  | 0x30#8 => parseFIV .dimmer operands
  | 0x31#8 => parseFIV .red operands
  | 0x32#8 => parseFIV .green operands
  | 0x33#8 => parseFIV .blue operands
  | 0x34#8 => parseFIV .stroberate operands
  | 0x35#8 => parseFIV .program operands
  | 0x36#8 => parseFC .setrgb operands
  | 0x40#8 => parseF0 .armon operands
  | 0x41#8 => parseF0 .armoff operands
  | 0x42#8 => parseF0 .armsafe operands
  | 0x43#8 => parseF0 .clrsafe operands
  | 0x44#8 => parseFS .strobe operands
  | 0x45#8 => parseF0 .rdsr operands
  | _ => .error .illegalOpcode

/-- Decode one command packet: total on every byte sequence, refusing by name (R96, R101, R102). -/
def decode : List Byte → Except Illegal Instr
  | [] => .error .emptyPacket
  | op :: operands => decodeOp op operands

/-! ### Encoding, from the same tables -/

/-- The opcode byte of a command (30_encoding.md R100). -/
def opcode : Instr → Byte
  | .encode _ => 0x10#8
  | .setch _ _ => 0x20#8
  | .getch _ => 0x21#8
  | .setrng _ _ => 0x22#8
  | .transmit => 0x23#8
  | .close => 0x24#8
  | .view _ _ _ => 0x28#8
  | .vset _ _ _ => 0x29#8
  | .vget _ _ => 0x2A#8
  | .dimmer _ _ => 0x30#8
  | .red _ _ => 0x31#8
  | .green _ _ => 0x32#8
  | .blue _ _ => 0x33#8
  | .stroberate _ _ => 0x34#8
  | .program _ _ => 0x35#8
  | .setrgb _ _ _ _ => 0x36#8
  | .armon => 0x40#8
  | .armoff => 0x41#8
  | .armsafe => 0x42#8
  | .clrsafe => 0x43#8
  | .strobe _ _ _ => 0x44#8
  | .rdsr => 0x45#8

/-- The operand bytes of a command, in the order of its format (30_encoding.md R99). -/
def operandBytes : Instr → List Byte
  | .encode data => le16 (BitVec.ofNat 16 data.length) ++ data
  | .setch index value => le16 index ++ le16 value
  | .getch index => le16 index
  | .setrng start values => le16 start ++ le16 (BitVec.ofNat 16 values.length) ++ le16s values
  | .transmit => []
  | .close => []
  | .view v start count => v :: (le16 start ++ le16 count)
  | .vset v off value => v :: (le16 off ++ le16 value)
  | .vget v off => v :: le16 off
  | .dimmer base value => le16 base ++ le16 value
  | .red base value => le16 base ++ le16 value
  | .green base value => le16 base ++ le16 value
  | .blue base value => le16 base ++ le16 value
  | .stroberate base value => le16 base ++ le16 value
  | .program base value => le16 base ++ le16 value
  | .setrgb base r g b => le16 base ++ le16 r ++ le16 g ++ le16 b
  | .armon => []
  | .armoff => []
  | .armsafe => []
  | .clrsafe => []
  | .strobe freqMhz durMs phase0 => le32 freqMhz ++ le32 durMs ++ [phase0]
  | .rdsr => []

/-- The packet of a well-formed command (30_encoding.md R96, R99, R100). -/
def encode (i : Instr) : List Byte := opcode i :: operandBytes i

/-! ### Packet lengths (R99, R101), and the words of the opcode table -/

/-- Byte `k` of a packet, 0 past its end. -/
def byteAt (bs : List Byte) (k : Nat) : Byte := bs.getD k 0#8

/-- The packet length that the opcode, and for FR and FE the `n` operand, give (30_encoding.md R99, R101); bytes past
the end of `bs` count as 0, and an unlisted opcode has length 1. -/
def packetLength (bs : List Byte) : Nat :=
  match byteAt bs 0 with
  | 0x10#8 => 3 + (u16 (byteAt bs 1) (byteAt bs 2)).toNat
  | 0x20#8 => 5
  | 0x21#8 => 3
  | 0x22#8 => 5 + 2 * (u16 (byteAt bs 3) (byteAt bs 4)).toNat
  | 0x23#8 => 1
  | 0x24#8 => 1
  | 0x28#8 => 6
  | 0x29#8 => 6
  | 0x2A#8 => 4
  | 0x30#8 => 5
  | 0x31#8 => 5
  | 0x32#8 => 5
  | 0x33#8 => 5
  | 0x34#8 => 5
  | 0x35#8 => 5
  | 0x36#8 => 9
  | 0x40#8 => 1
  | 0x41#8 => 1
  | 0x42#8 => 1
  | 0x43#8 => 1
  | 0x44#8 => 10
  | 0x45#8 => 1
  | _ => 1

/-- The first `k` bytes of a number whose bit 0 is bit 0 of byte 0. -/
def wordBytes : Nat → Nat → List Byte
  | 0, _ => []
  | k + 1, w => BitVec.ofNat 8 w :: wordBytes k (w / 256)

/-- The packet of an opcode-table word: the bytes the table gives, then zero bytes up to the length of the format. -/
def tablePacket (nbits w : Nat) : List Byte :=
  let bs := wordBytes ((nbits + 7) / 8) w
  bs ++ List.replicate (packetLength bs - bs.length) 0#8

/-- What the decoder reads from an opcode-table word. -/
def decodeTableWord (nbits w : Nat) : Option Instr :=
  match decode (tablePacket nbits w) with
  | .ok i => some i
  | .error _ => none

end Sys2Proof
end

