-- ==== Sys2Proof/Machine/Frame.lean ====
section
/-! DEFINITION. The two output encodings: the wire frame (30_encoding.md R90 to R95) and the response bytes (R103). -/

namespace Sys2Proof.Machine

/-- START, the start delimiter (30_encoding.md R90). -/
def startDelim : Byte := 0x7E#8

/-- LABEL, "send DMX packet" (R90). -/
def labelByte : Byte := 0x06#8

/-- SC, the DMX start code (R90). -/
def startCode : Byte := 0x00#8

/-- END, the end delimiter (R90). -/
def endDelim : Byte := 0xE7#8

/-- MAXFRAME, the length of a full-universe frame (R93, R95; 90_conflicts.md C1). -/
def maxFrame : Nat := 518

/-- `frame(d)` (30_encoding.md R91). -/
def frame (d : List Byte) : List Byte :=
  [startDelim, labelByte] ++ le16 (BitVec.ofNat 16 (d.length + 1)) ++ [startCode] ++ d ++ [endDelim]

/-- The frame of a whole universe: `frame(MemRead(1, 512))` (30_encoding.md R95, 41_universe_buffer.md R147). -/
def universeFrame (u : Memory) : List Byte := frame (u.readAll 1 nchan)

/-- The bytes of a response: status, dlen as u16, data (30_encoding.md R103). -/
def Response.bytes (r : Response) : List Byte :=
  r.status.byte :: (le16 (BitVec.ofNat 16 r.data.length) ++ r.data)

end Sys2Proof.Machine
end

