-- ==== Sys2Proof/Machine/Operands.lean ====
section
/-! DEFINITION. Operand forms: the value policy, the range checks of every address form, the channels they address, and
the conversions of STROBE (30_encoding.md R97, R98; 20_memory.md R61 to R64, R69; 43_oscillator.md R197). All address
arithmetic is on mathematical integers (00_scope.md R9, R13). -/

namespace Sys2Proof.Machine

/-- `clamp8(sext(value))`: the stored channel value of an `i16` operand (30_encoding.md R98, 41_universe_buffer.md
R150). -/
def clamp8 (v : Half) : Byte :=
  if v.toInt < 0 then 0#8 else if 255 < v.toInt then 255#8 else v.setWidth 8

/-- A channel number: 1 to 512 (20_memory.md R61). -/
def chanOk (c : Half) : Bool := decide (1 ≤ c.toNat) && decide (c.toNat ≤ nchan)

/-- A range of `n` channels from `start` (41_universe_buffer.md R143): `start` is a channel number and
`start + n - 1 <= 512` on integers. -/
def rangeOk (start : Half) (n : Nat) : Bool :=
  chanOk start && decide ((start.toNat : Int) + (n : Int) - 1 ≤ (nchan : Int))

/-- The view invariant checked at construction (41_universe_buffer.md R144): `start` in 1..512 and
`start <= 512 - count + 1` on integers. -/
def viewOk (start count : Half) : Bool :=
  chanOk start && decide ((start.toNat : Int) ≤ (nchan : Int) - (count.toNat : Int) + 1)

/-- The footprint check (42_fixture_map.md R171): `1 <= base` and `base + 5 <= 512`. -/
def footprintOk (base : Half) : Bool := decide (1 ≤ base.toNat) && decide (base.toNat + 5 ≤ nchan)

/-- A fixture-relative address: the channel at offset `k` from `base` (20_memory.md R64, 42_fixture_map.md R170). -/
def fixtureChan (base : Half) (k : Nat) : Nat := base.toNat + k

/-- NVIEW, the number of view slots (10_state.md R26). -/
def State.nview (s : State) : Nat := s.views.length

/-- View slot `v`; a number past the file reads as a slot never built. -/
def State.slot (s : State) (v : Byte) : View := s.views.getD v.toNat View.empty

/-- The check of VSET and VGET (41_universe_buffer.md R145, R146): the slot exists, was built, and holds the offset. -/
def State.viewAccessOk (s : State) (v : Byte) (off : Half) : Bool :=
  decide (v.toNat < s.nview) && (s.slot v).valid && decide (off.toNat < (s.slot v).count.toNat)

/-- A view-relative address: the channel at offset `off` of slot `v` (20_memory.md R63). -/
def State.viewChan (s : State) (v : Byte) (off : Half) : Nat := (s.slot v).start.toNat + off.toNat

/-- The operand check of STROBE (43_oscillator.md R195): a frequency above 0, a phase of 0 or 1. -/
def strobeOk (freqMhz : Word) (phase0 : Byte) : Bool := decide (freqMhz ≠ 0#32) && decide (phase0.toNat ≤ 1)

/-- `HALF = floor(500 × TICK_HZ / freq_mhz)` (43_oscillator.md R197). -/
def halfTicks (tickHz : Nat) (freqMhz : Word) : Ticks := BitVec.ofNat 64 (500 * tickHz / freqMhz.toNat)

/-- `DUR = dur_ms × (TICK_HZ / 1000)` (43_oscillator.md R197). -/
def durTicks (tickHz : Nat) (durMs : Word) : Ticks := BitVec.ofNat 64 (durMs.toNat * (tickHz / 1000))

end Sys2Proof.Machine
end

