-- ==== Sys2Proof/Machine/Ops.lean ====
section
/-! DEFINITION. The named operations the commands and the oscillator share: responding, raising an error (the block's
one form of taking an exception, 60_exceptions.md R236), writing the universe, the passing of time, the cancel request,
one transmission (41_universe_buffer.md R147), and the reset input. -/

namespace Sys2Proof.Machine

/-- `respond(status, data)` (00_scope.md R11, 30_encoding.md R103): the response is the next entry of `resp_log`. -/
def State.respond (st : Status) (data : List Byte) (s : State) : State :=
  { s with respLog := s.respLog ++ [{ status := st, data := data }] }

/-- `raise E(info)` (60_exceptions.md R236): the sticky bit of `E` and the error response, nothing else. There is no
handler and no return: the port is ready for the next command (R244). -/
def State.raise (e : Status) (info : List Byte) (s : State) : State :=
  (s.setSticky e).respond e info

/-- The sticky bit and the response of an OutOfRangeError, which carries no data (60_exceptions.md R232). -/
def State.raiseOor (s : State) : State := s.raise .outOfRangeError []

/-- Run a command's action if its operand check holds, else OutOfRangeError with nothing written (60_exceptions.md
R236, R241). -/
def State.guarded (ok : Bool) (act : State → State) (s : State) : State :=
  if ok then act s else s.raiseOor

/-- Write one channel of the universe and answer OK. -/
def State.storeChan (c : Nat) (v : Byte) (s : State) : State :=
  State.respond .ok [] { s with u := s.u.write c v }

/-- Write consecutive channels of the universe, all at once, and answer OK (20_memory.md R71). -/
def State.storeRange (c : Nat) (vs : List Byte) (s : State) : State :=
  State.respond .ok [] { s with u := s.u.writeAll c vs }

/-- A single-control fixture command: the footprint check, then one channel at offset `k` (42_fixture_map.md R171,
R179). -/
def State.storeControl (k : Nat) (base value : Half) (s : State) : State :=
  s.guarded (footprintOk base) (State.storeChan (fixtureChan base k) (clamp8 value))

/-! ### Time, HOST's moves and the cancel request -/

/-- What HOST does within `k` ticks while the block is busy: whether it raises the cancel request, and its moves left.
A packet, a reset or a pass waits until the block's atomic step is over (log entries 3 and 5). -/
def hostDuring : Nat → List HostMove → Bool × List HostMove
  | _, [] => (false, [])
  | k, .wait n :: hs => if n ≤ k then hostDuring (k - n) hs else (false, .wait (n - k) :: hs)
  | k, .cancel :: hs => (true, (hostDuring k hs).2)
  | _, .packet bs :: hs => (false, .packet bs :: hs)
  | _, .reset :: hs => (false, .reset :: hs)
  | _, .pass :: hs => (false, .pass :: hs)

/-- HOST does nothing until the block has made its next move. -/
def passFirst : List HostMove → Bool
  | [] => false
  | .pass :: _ => true
  | .packet _ :: _ => false
  | .wait _ :: _ => false
  | .cancel :: _ => false
  | .reset :: _ => false

/-- The state `t` that a move of the block leads to from `s`, with HOST's pass over if one stood first in `s`. A move that
enters a write the transport never answers is not over, so its pass is not (log entry 1). -/
def State.endPass (s t : State) : State :=
  { t with host := if passFirst s.host && !t.hung then t.host.tail else t.host }

/-- The effect of a cancel request, raised or not: latched while Running, dropped otherwise (43_oscillator.md R204,
60_exceptions.md R240). -/
def State.latchCancel (raised : Bool) (s : State) : State :=
  { s with cancel := s.cancel || (s.osc.isRunning && raised) }

/-- `NOW` counts `k` ticks (10_state.md R29). -/
def State.tick (k : Nat) (s : State) : State := { s with now := s.now + BitVec.ofNat 64 k }

/-- `k` ticks pass inside a step of the block, with what HOST does in them (log entry 3). -/
def State.elapse (k : Nat) (s : State) : State :=
  State.latchCancel (hostDuring k s.host).1 (State.tick k { s with host := (hostDuring k s.host).2 })

/-! ### The transport -/

/-- How the transport replies to the next write: the state's own list, then the free value (60_exceptions.md R247;
log entry 2). -/
def State.reply (s : State) : TxReply :=
  match s.replies with
  | r :: _ => r
  | [] => Config.freeReply s.drawn

/-- The reply is used up. -/
def State.dropReply (s : State) : State :=
  match s.replies with
  | _ :: rs => { s with replies := rs }
  | [] => { s with drawn := s.drawn + 1 }

/-- Append to `tx_log` (00_scope.md R12). -/
def State.logTx (e : TxEvent) (s : State) : State := { s with txLog := s.txLog ++ [e] }

/-- What `transmit_core` returns (41_universe_buffer.md R147), or that its write never returns (R275). -/
inductive TxResult where
  /-- The whole frame was accepted. -/
  | success
  /-- It failed, for that cause. -/
  | fail (c : TxCause)
  /-- The write never returns. -/
  | never
  deriving DecidableEq, Repr

/-- How the block reads the transport's answer (60_exceptions.md R249). -/
def TxResult.ofAnswer : TxAnswer → TxResult
  | .ok k => if k = maxFrame then .success else .fail .shortWrite
  | .err => .fail .writeError

/-- `transmit_core()` (41_universe_buffer.md R147): one blocking write of the current universe's frame; the block does
nothing else while it lasts (10_state.md R42). -/
def State.transmitCore (s : State) : TxResult × State :=
  if s.tpOpen then
    match s.reply with
    | .answered a ticks =>
      (TxResult.ofAnswer a, (s.dropReply.elapse ticks).logTx (.write (universeFrame s.u) a))
    | .never => (.never, { s.dropReply with hung := true })
  else (.fail .closed, s)

/-- The release of the handle, once (41_universe_buffer.md R149). -/
def State.release (s : State) : State :=
  if s.tpOpen then State.logTx .close { s with tpOpen := false } else s

/-! ### Reset and refusal -/

/-- The reset input (70_reset_and_hazards.md R260): every register and both observation lists at the value of
10_state.md R44, at once; the parameters, HOST and the transport go on. -/
def State.resetInput (s : State) : State :=
  { State.resetWith { tickHz := s.tickHz, nview := s.nview } with
    host := s.host, replies := s.replies, drawn := s.drawn }

/-- The refusal of a packet that is no command (60_exceptions.md R235). -/
def State.refuse (s : State) : State := s.raise .illegalCommand []

end Sys2Proof.Machine
end

