-- ==== Sys2Proof/Machine/FixtureMap.lean ====
section
/-! DEFINITION. The Fixture Channel Map family: DIMMER, RED, GREEN, BLUE, STROBERATE, PROGRAM, SETRGB
(42_fixture_map.md R170 to R179). -/

namespace Sys2Proof.Machine

/-- DIMMER: offset 0 (42_fixture_map.md R172). -/
def execDimmer (base value : Half) (s : State) : Host.Outcome State Fault Refusal :=
  .next (s.storeControl 0 base value)

/-- RED: offset 1 (42_fixture_map.md R173). -/
def execRed (base value : Half) (s : State) : Host.Outcome State Fault Refusal :=
  .next (s.storeControl 1 base value)

/-- GREEN: offset 2 (42_fixture_map.md R174). -/
def execGreen (base value : Half) (s : State) : Host.Outcome State Fault Refusal :=
  .next (s.storeControl 2 base value)

/-- BLUE: offset 3 (42_fixture_map.md R175). -/
def execBlue (base value : Half) (s : State) : Host.Outcome State Fault Refusal :=
  .next (s.storeControl 3 base value)

/-- STROBERATE: offset 4 (42_fixture_map.md R176); the Timed Oscillator is not touched. -/
def execStroberate (base value : Half) (s : State) : Host.Outcome State Fault Refusal :=
  .next (s.storeControl 4 base value)

/-- PROGRAM: offset 5 (42_fixture_map.md R177). -/
def execProgram (base value : Half) (s : State) : Host.Outcome State Fault Refusal :=
  .next (s.storeControl 5 base value)

/-- SETRGB: offsets 1, 2, 3 at once (42_fixture_map.md R178). -/
def execSetrgb (base r g b : Half) (s : State) : Host.Outcome State Fault Refusal :=
  .next (s.guarded (footprintOk base) (State.storeRange (fixtureChan base 1) [clamp8 r, clamp8 g, clamp8 b]))

end Sys2Proof.Machine
end

