-- ==== Sys2Proof/Machine/FrameCodec.lean ====
section
/-! DEFINITION. The Frame Codec family: ENCODE (40_frame_codec.md R120 to R122). -/

namespace Sys2Proof.Machine

/-- ENCODE (40_frame_codec.md R121, R122): the frame of the data as a response; more than 512 channels is an
EncodingError. -/
def execEncode (data : List Byte) (s : State) : Host.Outcome State Fault Refusal :=
  .next (if nchan < data.length then s.raise .encodingError [] else s.respond .ok (frame data))

end Sys2Proof.Machine
end

