-- ==== Sys2Proof/Machine/Oscillator.lean ====
section
/-! DEFINITION. The Timed Oscillator family: ARMON, ARMOFF, ARMSAFE, CLRSAFE, STROBE, RDSR, and the steps of the loop
that STROBE starts (43_oscillator.md R190 to R208). -/

namespace Sys2Proof.Machine

/-- ARMON: `ON <- U` (43_oscillator.md R191). -/
def execArmon (s : State) : Host.Outcome State Fault Refusal :=
  .next (State.respond .ok [] { s with snapOn := s.u })

/-- ARMOFF: `OFF <- U` (43_oscillator.md R192). -/
def execArmoff (s : State) : Host.Outcome State Fault Refusal :=
  .next (State.respond .ok [] { s with snapOff := s.u })

/-- ARMSAFE: `SAFE <- U` (43_oscillator.md R193). -/
def execArmsafe (s : State) : Host.Outcome State Fault Refusal :=
  .next (State.respond .ok [] { s with snapSafe := s.u })

/-- CLRSAFE: `SAFE` all zero (43_oscillator.md R194). -/
def execClrsafe (s : State) : Host.Outcome State Fault Refusal :=
  .next (State.respond .ok [] { s with snapSafe := [] })

/-- The start step of a run (43_oscillator.md R195); no response yet. -/
def State.startRun (freqMhz durMs : Word) (phase0 : Byte) (s : State) : State :=
  { s with
    half := halfTicks s.tickHz freqMhz
    dur := durTicks s.tickHz durMs
    cancel := false
    phase := decide (phase0 = 1#8)
    phaseCnt := 0#32
    t0 := s.now
    osc := .running .top }

/-- STROBE (43_oscillator.md R195, R196). -/
def execStrobe (freqMhz durMs : Word) (phase0 : Byte) (s : State) : Host.Outcome State Fault Refusal :=
  .next (s.guarded (strobeOk freqMhz phase0) (State.startRun freqMhz durMs phase0))

/-- RDSR: SR and PHASECNT (43_oscillator.md R208). -/
def execRdsr (s : State) : Host.Outcome State Fault Refusal :=
  .next (s.respond .ok (le16 s.sr ++ le32 s.phaseCnt))

/-! ### The loop -/

/-- The elapsed time `(NOW - T0) mod 2^64` (43_oscillator.md R198). -/
def State.elapsed (s : State) : Ticks := s.now - s.t0

/-- R198, the top of an iteration: the duration first, then the cancel flag. -/
def State.topStep (s : State) : State :=
  if s.dur.toNat ≤ s.elapsed.toNat then { s with osc := .running (.finish .completed) }
  else if s.cancel then { s with osc := .running (.finish .stopped) }
  else { s with osc := .running .phase }

/-- The snapshot of the current phase (43_oscillator.md R199). -/
def State.phaseSnap (s : State) : Memory := if s.phase then s.snapOn else s.snapOff

/-- The start of R199: `TITER <- NOW`, and the phase's snapshot into the universe. -/
def State.loadPhase (s : State) : State := { s with titer := s.now, u := s.phaseSnap }

/-- What the loop does with the result of a phase transmission (43_oscillator.md R199). -/
def phaseDone : TxResult × State → State
  | (.success, t) => { t with phaseCnt := t.phaseCnt + 1#32, osc := .running .sleep }
  | (.fail c, t) => { t with osc := .running (.fail c) }
  | (.never, t) => t

/-- R199, the phase transmission. -/
def State.phaseStep (s : State) : State := phaseDone s.loadPhase.transmitCore

/-- The ticks of the sleep: `max(0, HALF - spent)` (43_oscillator.md R200). -/
def State.sleepTicks (s : State) : Nat := s.half.toNat - (s.now - s.titer).toNat

/-- R200, the sleep: it ends at the first tick with `(NOW - TITER) mod 2^64 >= HALF` and is not cut short. -/
def State.sleepStep (s : State) : State := { s.elapse s.sleepTicks with osc := .running .flip }

/-- R201, the flip. -/
def State.flipStep (s : State) : State := { s with phase := !s.phase, osc := .running .top }

/-- The safe snapshot into the universe (43_oscillator.md R202, R203). -/
def State.loadSafe (s : State) : State := { s with u := s.snapSafe }

/-- What the loop does with the result of the final frame (43_oscillator.md R202). -/
def finishDone (e : RunEnd) : TxResult × State → State
  | (.success, t) => State.respond .ok (e.byte :: le32 t.phaseCnt) { t with osc := e.osc }
  | (.fail c, t) => State.raise .transmitError [c.byte] { t with osc := .failed }
  | (.never, t) => t

/-- R202, the final frame. -/
def State.finishStep (e : RunEnd) (s : State) : State := finishDone e s.loadSafe.transmitCore

/-- What the fail path does after its best-effort frame, whose result is ignored (43_oscillator.md R203). -/
def failDone (c : TxCause) : TxResult × State → State
  | (.success, t) => State.raise .transmitError [c.byte] { t with osc := .failed }
  | (.fail _, t) => State.raise .transmitError [c.byte] { t with osc := .failed }
  | (.never, t) => t.setSticky .transmitError

/-- R203, the fail path. -/
def State.failStep (c : TxCause) (s : State) : State := failDone c s.loadSafe.transmitCore

/-- One step of the oscillator sequencer at a position of the loop (43_oscillator.md R198 to R203). -/
def State.loopStep (pos : LoopPos) (s : State) : State :=
  match pos with
  | .top => s.topStep
  | .phase => s.phaseStep
  | .sleep => s.sleepStep
  | .flip => s.flipStep
  | .finish e => s.finishStep e
  | .fail c => s.failStep c

end Sys2Proof.Machine
end

