-- ==== Sys2Proof/Machine/UniverseBuffer.lean ====
section
/-! DEFINITION. The Universe Buffer family: SETCH, GETCH, SETRNG, TRANSMIT, CLOSE, VIEW, VSET, VGET
(41_universe_buffer.md R140 to R151). -/

namespace Sys2Proof.Machine

/-- SETCH (41_universe_buffer.md R141). -/
def execSetch (index value : Half) (s : State) : Host.Outcome State Fault Refusal :=
  .next (s.guarded (chanOk index) (State.storeChan index.toNat (clamp8 value)))

/-- GETCH (41_universe_buffer.md R142). -/
def execGetch (index : Half) (s : State) : Host.Outcome State Fault Refusal :=
  .next (s.guarded (chanOk index) (State.respond .ok [s.u.read index.toNat]))

/-- SETRNG (41_universe_buffer.md R143): all `n` channels or none. -/
def execSetrng (start : Half) (values : List Half) (s : State) : Host.Outcome State Fault Refusal :=
  .next (s.guarded (rangeOk start values.length) (State.storeRange start.toNat (values.map clamp8)))

/-- What TRANSMIT does with the result of `transmit_core` (41_universe_buffer.md R148); a write that never returns
gives no response (70_reset_and_hazards.md R275). -/
def transmitDone : TxResult × State → State
  | (.success, t) => t.respond .ok []
  | (.fail c, t) => t.raise .transmitError [c.byte]
  | (.never, t) => t

/-- TRANSMIT (41_universe_buffer.md R148). -/
def execTransmit (s : State) : Host.Outcome State Fault Refusal :=
  .next (transmitDone s.transmitCore)

/-- CLOSE (41_universe_buffer.md R149). -/
def execClose (s : State) : Host.Outcome State Fault Refusal :=
  .next (s.release.respond .ok [])

/-- Build a view slot (41_universe_buffer.md R144). -/
def State.buildView (v : Byte) (start count : Half) (s : State) : State :=
  { s with views := s.views.set v.toNat { start := start.setWidth 10, count := count.setWidth 10, valid := true } }

/-- VIEW (41_universe_buffer.md R144): the slot must exist and the view invariant must hold. -/
def execView (v : Byte) (start count : Half) (s : State) : Host.Outcome State Fault Refusal :=
  .next (s.guarded (decide (v.toNat < s.nview) && viewOk start count)
    (fun s => (s.buildView v start count).respond .ok []))

/-- VSET (41_universe_buffer.md R145). -/
def execVset (v : Byte) (off value : Half) (s : State) : Host.Outcome State Fault Refusal :=
  .next (s.guarded (s.viewAccessOk v off) (State.storeChan (s.viewChan v off) (clamp8 value)))

/-- VGET (41_universe_buffer.md R146). -/
def execVget (v : Byte) (off : Half) (s : State) : Host.Outcome State Fault Refusal :=
  .next (s.guarded (s.viewAccessOk v off) (State.respond .ok [s.u.read (s.viewChan v off)]))

end Sys2Proof.Machine
end

