-- ==== Sys2Proof/Machine/Dispatch.lean ====
section
/-! DEFINITION. One arm per command, each one direct call of its meaning. -/

namespace Sys2Proof.Machine

def exec (i : Instr) (s : State) : Host.Outcome State Fault Refusal :=
  match i with
  -- Frame Codec
  | .encode data => Sys2Proof.Machine.execEncode data s
  -- Universe Buffer
  | .setch index value => Sys2Proof.Machine.execSetch index value s
  | .getch index => Sys2Proof.Machine.execGetch index s
  | .setrng start values => Sys2Proof.Machine.execSetrng start values s
  | .transmit => Sys2Proof.Machine.execTransmit s
  | .close => Sys2Proof.Machine.execClose s
  | .view v start count => Sys2Proof.Machine.execView v start count s
  | .vset v off value => Sys2Proof.Machine.execVset v off value s
  | .vget v off => Sys2Proof.Machine.execVget v off s
  -- Fixture Channel Map
  | .dimmer base value => Sys2Proof.Machine.execDimmer base value s
  | .red base value => Sys2Proof.Machine.execRed base value s
  | .green base value => Sys2Proof.Machine.execGreen base value s
  | .blue base value => Sys2Proof.Machine.execBlue base value s
  | .stroberate base value => Sys2Proof.Machine.execStroberate base value s
  | .program base value => Sys2Proof.Machine.execProgram base value s
  | .setrgb base r g b => Sys2Proof.Machine.execSetrgb base r g b s
  -- Timed Oscillator
  | .armon => Sys2Proof.Machine.execArmon s
  | .armoff => Sys2Proof.Machine.execArmoff s
  | .armsafe => Sys2Proof.Machine.execArmsafe s
  | .clrsafe => Sys2Proof.Machine.execClrsafe s
  | .strobe freqMhz durMs phase0 => Sys2Proof.Machine.execStrobe freqMhz durMs phase0 s
  | .rdsr => Sys2Proof.Machine.execRdsr s

end Sys2Proof.Machine
end

