-- ==== Sys2Proof/Machine/Fetch.lean ====
section
/-! DEFINITION. Which actor moves next (00_scope.md R14), the acceptance of a command packet (30_encoding.md R96), and
the placing of a packet at the port. -/

namespace Sys2Proof.Machine

/-- A complete packet accepted at the free port: the command it decodes to, or the refusal (30_encoding.md R96, R101,
R102; 60_exceptions.md R235, R241). -/
def runPacket (bs : List Byte) (s : State) : Host.Outcome State Fault Refusal :=
  match decode bs with
  | .ok i => exec i s
  | .error _ => .next s.refuse

/-- HOST-owned mode: the next move of HOST, or, when HOST has none, one tick of TIME (60_exceptions.md R245,
70_reset_and_hazards.md R275). A cancel request is dropped here (43_oscillator.md R204); at a pass the block has no move
to make. -/
def hostStep (s : State) : Host.Outcome State Fault Refusal :=
  match s.host with
  | [] => .next (s.tick 1)
  | .packet bs :: hs => runPacket bs { s with host := hs }
  | .wait n :: hs => .next (State.tick n { s with host := hs })
  | .pass :: hs => .next { s with host := hs }
  | .cancel :: hs => .next (State.latchCancel true { s with host := hs })
  | .reset :: hs => .next (State.resetInput { s with host := hs })

/-- The port is busy: of HOST's moves only the cancel request and reset are taken, else the block makes its move `act`
(10_state.md R42, 60_exceptions.md R245). -/
def busyStep (act : State → State) (s : State) : Host.Outcome State Fault Refusal :=
  match s.host with
  | .cancel :: hs => .next (State.latchCancel true { s with host := hs })
  | .reset :: hs => .next (State.resetInput { s with host := hs })
  | [] => .next (s.endPass (act s))
  | .packet _ :: _ => .next (s.endPass (act s))
  | .wait _ :: _ => .next (s.endPass (act s))
  | .pass :: _ => .next (s.endPass (act s))

/-- One step: inside a write that never returns only time passes (70_reset_and_hazards.md R275); while Running the
sequencer moves; otherwise HOST does. -/
def advance (s : State) : Host.Outcome State Fault Refusal :=
  if s.hung then busyStep (State.elapse 1) s
  else
    match s.osc with
    | .running pos => busyStep (State.loopStep pos) s
    | .idle => hostStep s
    | .stopped => hostStep s
    | .completed => hostStep s
    | .failed => hostStep s

/-- The port freed: no write outstanding, no run (what a placed packet needs to be accepted at once). -/
def State.freePort (s : State) : State :=
  { s with hung := false, osc := if s.osc.isRunning then .idle else s.osc }

/-- A packet placed as HOST's next move, with the port free. -/
def State.placePacket (bs : List Byte) (s : State) : State :=
  { s.freePort with host := .packet bs :: s.host }

end Sys2Proof.Machine
end

