-- ==== Sys2Proof/Machine/Step.lean ====
section
/-! DEFINITION. The step of the machine, and the placing of an opcode-table word where the step takes its next
command. -/

namespace Sys2Proof.Machine

/-- One step of the machine (00_scope.md R14). -/
def step (s : State) : Host.Outcome State Fault Refusal := advance s

/-- The state with an opcode-table word as the packet HOST presents next, the port free (log entry 7). -/
def State.withFetchWord (s : State) (nbits w : Nat) : State := s.placePacket (tablePacket nbits w)

end Sys2Proof.Machine
end

