-- ==== Sys2Proof/Safety.lean ====
section
/-! DEFINITION. What a sound state and a sound run are, in the terms the statements use: the invariants of the files, the
views and the logs, the frame predicates, and the ideal run of 43_oscillator.md R206. -/

namespace Sys2Proof.Machine

/-! ### Invariants -/

/-- The four channel files are in canonical form: 512 byte registers numbered 1..512 (10_state.md R20, R21, R25). -/
def State.FilesWf (s : State) : Prop :=
  s.u.wf = true ∧ s.snapOn.wf = true ∧ s.snapOff.wf = true ∧ s.snapSafe.wf = true

/-- The view invariant of a valid slot: `1 <= VSTART <= 512` and `VSTART + VCOUNT - 1 <= 512` (10_state.md R26). -/
def View.Ok (v : View) : Prop :=
  v.valid = true → 1 ≤ v.start.toNat ∧ v.start.toNat ≤ 512 ∧ (v.start.toNat : Int) + v.count.toNat - 1 ≤ 512

/-- Every slot keeps the view invariant (10_state.md R26). -/
def State.ViewsOk (s : State) : Prop := ∀ v ∈ s.views, v.Ok

/-- An entry of `tx_log` that is one full-universe frame: 518 bytes, `7E 06 01 02 00` first and `E7` last
(30_encoding.md R95). -/
def TxEvent.IsFrame : TxEvent → Prop
  | .write bytes _ =>
    bytes.length = 518 ∧ bytes.take 5 = [0x7E#8, 0x06#8, 0x01#8, 0x02#8, 0x00#8] ∧ bytes.getLast? = some 0xE7#8
  | .close => False

/-- `tx_log` is full-universe frames, then one close exactly when the handle is released (30_encoding.md R95,
41_universe_buffer.md R147, R149). -/
def State.TxLogOk (s : State) : Prop :=
  ∃ ws : List TxEvent, (∀ e ∈ ws, e.IsFrame) ∧ s.txLog = ws ++ (if s.tpOpen then [] else [.close])

/-- The form of a response (30_encoding.md R105, 60_exceptions.md R234): FramingError is never sent, the other errors
carry no data but TransmitError, whose one byte is a cause 0 to 2. -/
def Response.Ok (r : Response) : Prop :=
  match r.status with
  | .ok => True
  | .encodingError => r.data = []
  | .outOfRangeError => r.data = []
  | .transmitError => r.data = [0#8] ∨ r.data = [1#8] ∨ r.data = [2#8]
  | .framingError => False
  | .illegalCommand => r.data = []

/-- Every response sent has its form. -/
def State.RespLogOk (s : State) : Prop := ∀ r ∈ s.respLog, r.Ok

/-- The invariant of the machine. -/
structure State.Inv (s : State) : Prop where
  files : s.FilesWf
  views : s.ViewsOk
  txLog : s.TxLogOk
  respLog : s.RespLogOk

/-! ### Frames: what a command leaves unchanged -/

/-- Only the universe and `resp_log` may differ, and `resp_log` gains exactly `r`. -/
def OnlyUniverse (s t : State) (r : Response) : Prop :=
  t = { s with u := t.u, respLog := s.respLog ++ [r] }

/-- Only `resp_log` differs: it gains exactly `r`. -/
def OnlyResponse (s t : State) (r : Response) : Prop := t = { s with respLog := s.respLog ++ [r] }

/-- Channel `c` reads `v`, and every other address reads as before. -/
def ChannelSet (m m' : Memory) (c : Nat) (v : Byte) : Prop :=
  ∀ a, m'.read a = if a = c then v else m.read a

/-- Channels `c, c+1, …` read the bytes of `vs` in order, and every other address reads as before. -/
def RangeSet (m m' : Memory) (c : Nat) (vs : List Byte) : Prop :=
  ∀ a, m'.read a = if c ≤ a ∧ a < c + vs.length then vs.getD (a - c) 0#8 else m.read a

/-- The state after an OutOfRangeError: the sticky bit and the response, nothing else (60_exceptions.md R236). -/
def State.afterOor (s : State) : State :=
  { s with eOor := true, respLog := s.respLog ++ [{ status := .outOfRangeError, data := [] }] }

/-- Every sticky bit that is set stays set. -/
def StickyKept (s t : State) : Prop :=
  (s.eEnc = true → t.eEnc = true) ∧ (s.eOor = true → t.eOor = true) ∧
    (s.eTx = true → t.eTx = true) ∧ (s.eIll = true → t.eIll = true)

/-! ### Modes -/

/-- Host-owned mode with the port free (60_exceptions.md R245). -/
def State.PortFree (s : State) : Prop := s.hung = false ∧ s.osc.isRunning = false

/-- The block is quiescent (70_reset_and_hazards.md R275): the port is free and HOST has nothing more to do. -/
def State.Quiescent (s : State) : Prop := s.PortFree ∧ s.host = []

/-- HOST makes no cancel request and no reset now, so that the sequencer moves; a pass that stands first is over after
that move (`State.endPass`). -/
def State.HostPassive (s : State) : Prop := s.host.head? ≠ some .cancel ∧ s.host.head? ≠ some .reset

/-- The snapshot of a phase (43_oscillator.md R199). -/
def State.snapOf (s : State) (phase : Bool) : Memory := if phase then s.snapOn else s.snapOff

/-- The state after a write of file `m` that the transport answered with `a` after `d` ticks: the ticks, the entry of
`tx_log`, the cancel requests HOST raised in them latched while Running (43_oscillator.md R199, R204), HOST's moves and
the transport's reply used up. Nothing else changes. -/
def State.wrote (s : State) (m : Memory) (a : TxAnswer) (d : Nat) : State :=
  { s with
    now := s.now + BitVec.ofNat 64 d
    txLog := s.txLog ++ [.write (universeFrame m) a]
    cancel := s.cancel || (s.osc.isRunning && (hostDuring d s.host).1)
    host := (hostDuring d s.host).2
    replies := s.replies.tail
    drawn := if s.replies = [] then s.drawn + 1 else s.drawn }

/-- The state inside a write that the transport never answers (70_reset_and_hazards.md R275). -/
def State.unanswered (s : State) : State :=
  { s with
    hung := true
    replies := s.replies.tail
    drawn := if s.replies = [] then s.drawn + 1 else s.drawn }

/-- The cause byte a failing answer gives (60_exceptions.md R250). -/
def failCause : TxAnswer → TxCause
  | .ok _ => .shortWrite
  | .err => .writeError

/-- Whether the loop stands between a phase transmission that succeeded and its flip. -/
def OscState.flipPending : OscState → Bool
  | .running .sleep => true
  | .running .flip => true
  | _ => false

/-- The phase of the run's first phase transmission, recovered from PHASE and PHASECNT: successive phase transmissions
alternate exactly if no step of a run changes it (43_oscillator.md R201, R205 (a)). -/
def State.firstPhase (s : State) : Bool :=
  (s.phase != s.phaseCnt.getLsbD 0) != s.osc.flipPending

/-- The table of 60_exceptions.md R232: when a command raises OutOfRangeError. -/
def OutOfRange (s : State) : Instr → Prop
  | .encode _ => False
  | .setch index _ => index.toNat < 1 ∨ 512 < index.toNat
  | .getch index => index.toNat < 1 ∨ 512 < index.toNat
  | .setrng start values => start.toNat < 1 ∨ 512 < start.toNat ∨ (512 : Int) < start.toNat + values.length - 1
  | .transmit => False
  | .close => False
  | .view v start count =>
    s.views.length ≤ v.toNat ∨ start.toNat < 1 ∨ 512 < start.toNat ∨ (512 : Int) - count.toNat + 1 < start.toNat
  | .vset v off _ =>
    s.views.length ≤ v.toNat ∨ (s.slot v).valid = false ∨ (s.slot v).count.toNat ≤ off.toNat
  | .vget v off =>
    s.views.length ≤ v.toNat ∨ (s.slot v).valid = false ∨ (s.slot v).count.toNat ≤ off.toNat
  | .dimmer base _ => base.toNat < 1 ∨ 512 < base.toNat + 5
  | .red base _ => base.toNat < 1 ∨ 512 < base.toNat + 5
  | .green base _ => base.toNat < 1 ∨ 512 < base.toNat + 5
  | .blue base _ => base.toNat < 1 ∨ 512 < base.toNat + 5
  | .stroberate base _ => base.toNat < 1 ∨ 512 < base.toNat + 5
  | .program base _ => base.toNat < 1 ∨ 512 < base.toNat + 5
  | .setrgb base _ _ _ => base.toNat < 1 ∨ 512 < base.toNat + 5
  | .armon => False
  | .armoff => False
  | .armsafe => False
  | .clrsafe => False
  | .strobe freqMhz _ phase0 => freqMhz.toNat = 0 ∨ 1 < phase0.toNat
  | .rdsr => False

/-- Byte 0 of a packet is an opcode of 30_encoding.md R100: not in one of R102's illegal ranges. -/
def ListedOpcode (op : Byte) : Prop :=
  ¬ (op.toNat ≤ 0x0F ∨ (0x11 ≤ op.toNat ∧ op.toNat ≤ 0x1F) ∨ (0x25 ≤ op.toNat ∧ op.toNat ≤ 0x27) ∨
    (0x2B ≤ op.toNat ∧ op.toNat ≤ 0x2F) ∨ (0x37 ≤ op.toNat ∧ op.toNat ≤ 0x3F) ∨ 0x46 ≤ op.toNat)

/-- The state after a packet refused as IllegalCommand, the packet being HOST's first move (60_exceptions.md R235). -/
def State.afterIllegal (s : State) : State :=
  { s with
    host := s.host.tail
    eIll := true
    respLog := s.respLog ++ [{ status := .illegalCommand, data := [] }] }

/-! ### The ideal run of 43_oscillator.md R206 -/

/-- The log entry of a transmission of file `m` that succeeds. -/
def sentOk (m : Memory) : TxEvent := .write (universeFrame m) (.ok 518)

/-- The `n` alternating phase frames from phase `p` on (43_oscillator.md R201, R205). -/
def State.phaseFrames (s : State) : Bool → Nat → List TxEvent
  | _, 0 => []
  | p, n + 1 => sentOk (s.snapOf p) :: State.phaseFrames s (!p) n

/-- The next `n` replies each accept the whole frame within `limit` ticks. -/
def GoodReplies (limit : Nat) : Nat → List TxReply → Prop
  | 0, _ => True
  | n + 1, .answered (.ok k) d :: rs => k = 518 ∧ d ≤ limit ∧ GoodReplies limit n rs
  | _ + 1, _ => False

/-- `N = ceil(DUR / HALF)` (43_oscillator.md R206). -/
def State.idealCount (s : State) : Nat := (s.dur.toNat + s.half.toNat - 1) / s.half.toNat

/-- `k` steps of the machine, stopping at a fault or a refusal. -/
def State.runFor : Nat → State → Host.Outcome State Fault Refusal
  | 0, s => .next s
  | k + 1, s =>
    match step s with
    | .next t => State.runFor k t
    | .fault r => .fault r
    | .refused r => .refused r

/-- A run that has just started, at `NOW = T0`, with no cancel request and no other move of HOST to come, `HALF > 0`,
and times far from the wrap of NOW (43_oscillator.md R206; `DUR` is below 2^52 and `HALF` below 2^39 by
00_scope.md R13). -/
structure State.IdealStart (s : State) : Prop where
  atTop : s.osc = .running .top
  alive : s.hung = false
  quiet : s.host = []
  uncancelled : s.cancel = false
  opened : s.tpOpen = true
  started : s.now = s.t0
  halfPos : 0 < s.half.toNat
  halfBound : s.half.toNat < 2 ^ 39
  durBound : s.dur.toNat < 2 ^ 52

end Sys2Proof.Machine
end

