-- ==== Sys2Proof/Certificates/Slice0/Obligations.lean ====
section
/-! DEFINITION. The statements for the provers. Each docstring names the rule of the spec it formalises. -/

open Sys2Proof Sys2Proof.Machine

/-! ### Encoding and decoding -/

/-- Decoding the packet of a well-formed command gives the command back (30_encoding.md R97, R99, R100, R101). -/
def Obligations.DecodeOfEncode : Prop :=
  ∀ i : Instr, i.wellFormed = true → decode (encode i) = .ok i

/-- A packet that decodes is the packet of that well-formed command and no other (30_encoding.md R96 to R102). -/
def Obligations.EncodeOfDecode : Prop :=
  ∀ (bs : List Byte) (i : Instr), decode bs = .ok i → i.wellFormed = true ∧ encode i = bs

/-- Packets written out in the spec decode to the commands they stand for (95_test_vectors.md section 2; the SETRNG
packet is the example of 41_universe_buffer.md R143). -/
def Obligations.SpecPacketsDecode : Prop :=
  decode [0x10#8, 0x03#8, 0x00#8, 0xFF#8, 0x00#8, 0x80#8] = .ok (.encode [255#8, 0#8, 128#8]) ∧
  decode [0x20#8, 0x00#8, 0x02#8, 0x2C#8, 0x01#8] = .ok (.setch 512#16 300#16) ∧
  decode [0x22#8, 0xFB#8, 0x01#8, 0x03#8, 0x00#8, 0x2C#8, 0x01#8, 0xFB#8, 0xFF#8, 0x80#8, 0x00#8] =
    .ok (.setrng 507#16 [300#16, BitVec.ofInt 16 (-5), 128#16]) ∧
  decode [0x28#8, 0x00#8, 0xFB#8, 0x01#8, 0x06#8, 0x00#8] = .ok (.view 0#8 507#16 6#16) ∧
  decode [0x36#8, 0x01#8, 0x00#8, 0xFF#8, 0x00#8, 0x00#8, 0x00#8, 0x00#8, 0x00#8] =
    .ok (.setrgb 1#16 255#16 0#16 0#16) ∧
  decode [0x44#8, 0x40#8, 0x1F#8, 0x00#8, 0x00#8, 0xFA#8, 0x00#8, 0x00#8, 0x00#8, 0x00#8] =
    .ok (.strobe 8000#32 250#32 0#8) ∧
  decode [0x45#8] = .ok .rdsr

/-- A packet that is empty, or whose first byte is no opcode of the table, is refused as IllegalCommand: `E_ILL`, the
response with status 0xFF, and no other change (30_encoding.md R102, 60_exceptions.md R235). -/
def Obligations.UnlistedOpcodeRefused : Prop :=
  ∀ (s : State) (bs : List Byte) (hs : List HostMove), s.PortFree → s.host = .packet bs :: hs →
    (bs = [] ∨ ∃ op rest, bs = op :: rest ∧ ¬ ListedOpcode op) → step s = .next s.afterIllegal

/-- With a listed opcode, exactly the packets of the length the format gives are commands; every other is refused and
changes nothing but `E_ILL` (30_encoding.md R101). -/
def Obligations.WrongLengthRefused : Prop :=
  ∀ (op : Byte) (rest : List Byte), ListedOpcode op →
    ((op :: rest).length = packetLength (op :: rest) → ∃ i, decode (op :: rest) = .ok i) ∧
    ((op :: rest).length ≠ packetLength (op :: rest) →
      ∀ (s : State) (hs : List HostMove), s.PortFree → s.host = .packet (op :: rest) :: hs →
        step s = .next s.afterIllegal)

/-- The wire frame byte by byte, with L the number of channel bytes (30_encoding.md R90, R92, R93). -/
def Obligations.FrameLayout : Prop :=
  ∀ d : List Byte, d.length ≤ 512 →
    (frame d).length = d.length + 6 ∧
    (frame d)[0]? = some 0x7E#8 ∧ (frame d)[1]? = some 0x06#8 ∧
    (∃ lo hi : Byte, (frame d)[2]? = some lo ∧ (frame d)[3]? = some hi ∧
      lo.toNat + 256 * hi.toNat = d.length + 1) ∧
    (frame d)[4]? = some 0x00#8 ∧
    (∀ k, k < d.length → (frame d)[5 + k]? = d[k]?) ∧
    (frame d)[5 + d.length]? = some 0xE7#8

/-- The full-universe frame: 518 bytes, the first five and the last fixed, channel `c` at offset `4 + c`
(30_encoding.md R95, 20_memory.md R65). -/
def Obligations.UniverseFrameLayout : Prop :=
  ∀ u : Memory,
    (universeFrame u).length = 518 ∧
    (universeFrame u).take 5 = [0x7E#8, 0x06#8, 0x01#8, 0x02#8, 0x00#8] ∧
    (∀ c, 1 ≤ c → c ≤ 512 → (universeFrame u)[4 + c]? = some (u.read c)) ∧
    (universeFrame u)[517]? = some 0xE7#8

/-- The bytes of a response: the status, the number of data bytes little-endian, the data, with the status codes of
30_encoding.md R104 (R103, R104). -/
def Obligations.ResponseLayout : Prop :=
  (Status.ok.byte = 0x00#8 ∧ Status.encodingError.byte = 0x01#8 ∧ Status.outOfRangeError.byte = 0x02#8 ∧
    Status.transmitError.byte = 0x03#8 ∧ Status.framingError.byte = 0x04#8 ∧ Status.illegalCommand.byte = 0xFF#8) ∧
  ∀ r : Response, r.data.length ≤ 65535 →
    r.bytes[0]? = some r.status.byte ∧
    (∃ lo hi : Byte, r.bytes[1]? = some lo ∧ r.bytes[2]? = some hi ∧ lo.toNat + 256 * hi.toNat = r.data.length) ∧
    r.bytes.drop 3 = r.data

/-- The value policy: negative operands store 0, operands above 255 store 255, the others store themselves
(30_encoding.md R98, 41_universe_buffer.md R150). -/
def Obligations.ValueClamped : Prop :=
  ∀ v : Half,
    (v.toInt < 0 → clamp8 v = 0#8) ∧ (255 < v.toInt → clamp8 v = 255#8) ∧
    (0 ≤ v.toInt → v.toInt ≤ 255 → ((clamp8 v).toNat : Int) = v.toInt)

/-- The conversions of STROBE are exact in 64 bits for every operand and every TICK_HZ up to 10^9 (43_oscillator.md
R197). -/
def Obligations.StrobeConversions : Prop :=
  ∀ (tickHz : Nat) (freqMhz durMs : Word), tickHz ≤ 1000000000 → freqMhz ≠ 0#32 →
    (halfTicks tickHz freqMhz).toNat = 500 * tickHz / freqMhz.toNat ∧
    (durTicks tickHz durMs).toNat = durMs.toNat * (tickHz / 1000)

/-! ### The step -/

/-- With the port free, a packet that decodes runs as exec of its command, on the state without the packet; nothing is
done around it (30_encoding.md R96). -/
def Obligations.StepRunsDecodedCommand : Prop :=
  ∀ (s : State) (bs : List Byte) (hs : List HostMove) (i : Instr), s.PortFree → s.host = .packet bs :: hs →
    decode bs = .ok i → step s = exec i { s with host := hs }

/-- The machine has no fault and refuses nothing: every step answers a next state (60_exceptions.md R236). -/
def Obligations.EveryStepAnswers : Prop := ∀ s : State, ∃ t, step s = .next t

/-- While the port is busy, in a run or inside a write, a packet is not accepted (10_state.md R42, 60_exceptions.md
R245). -/
def Obligations.BusyPortHoldsPacket : Prop :=
  ∀ (s : State) (bs : List Byte) (hs : List HostMove), ¬ s.PortFree → s.host = .packet bs :: hs →
    ∃ t, step s = .next t ∧ t.host = s.host

/-- A cancel request sets CANCEL while Running and is dropped otherwise; it changes nothing else. One that HOST raises
within the `d` ticks of a write or a sleep is seen in them, one that comes later is still to come (43_oscillator.md R204,
60_exceptions.md R240; HOST's list of moves is log entry 1). -/
def Obligations.CancelRequestLatched : Prop :=
  (∀ (s : State) (hs : List HostMove), s.host = .cancel :: hs →
    step s = .next { s with host := hs, cancel := if s.osc.isRunning then true else s.cancel }) ∧
  (∀ (d n : Nat) (hs : List HostMove),
    (n ≤ d → (hostDuring d (.wait n :: .cancel :: hs)).1 = true) ∧
    (d < n → hostDuring d (.wait n :: .cancel :: hs) = (false, .wait (n - d) :: .cancel :: hs)))

/-- The state after reset (10_state.md R44): host-owned with the port free (R44, 70_reset_and_hazards.md R261), SR =
0x0010 (R32), and the parameters at the defaults of 00_scope.md section 5, which the model holds in the state (log
entry 4). -/
def Obligations.ResetStateValues : Prop :=
  (∀ c, State.reset.u.read c = 0#8 ∧ State.reset.snapOn.read c = 0#8 ∧ State.reset.snapOff.read c = 0#8 ∧
    State.reset.snapSafe.read c = 0#8) ∧
  State.reset.views.length = 4 ∧
  (∀ w ∈ State.reset.views, w.valid = false ∧ w.start = 0#10 ∧ w.count = 0#10) ∧
  State.reset.tpOpen = true ∧ State.reset.osc = .idle ∧ State.reset.phase = false ∧ State.reset.cancel = false ∧
  State.reset.half = 0#64 ∧ State.reset.dur = 0#64 ∧ State.reset.t0 = 0#64 ∧ State.reset.titer = 0#64 ∧
  State.reset.phaseCnt = 0#32 ∧ State.reset.eEnc = false ∧ State.reset.eOor = false ∧ State.reset.eTx = false ∧
  State.reset.eIll = false ∧ State.reset.now = 0#64 ∧ State.reset.txLog = [] ∧ State.reset.respLog = [] ∧
  State.reset.tickHz = 1000000 ∧ State.reset.sr = 0x0010#16 ∧ State.reset.PortFree

/-- The reset input brings every register to its reset value at once, whatever the state; the parameters and the
environment go on (70_reset_and_hazards.md R260). That it does so during a run too is the model's choice of U12's
second alternative (log entry 5). -/
def Obligations.ResetInputRestores : Prop :=
  ∀ (s : State) (hs : List HostMove), s.host = .reset :: hs →
    ∃ t, step s = .next t ∧ t.views.length = s.views.length ∧
      t = { State.reset with
        views := t.views, tickHz := s.tickHz, host := hs, replies := s.replies, drawn := s.drawn } ∧
      ∀ w ∈ t.views, w = View.empty

/-- With the port free and HOST done, nothing but NOW changes: no frame leaves the block (70_reset_and_hazards.md R271,
R275). When HOST waits at a free port NOW counts those ticks and nothing else changes; when HOST lets the block move, the
block has no move to make (log entries 1 and 3). -/
def Obligations.QuiescentOnlyCounts : Prop :=
  (∀ s : State, s.Quiescent → step s = .next { s with now := s.now + 1#64 }) ∧
  (∀ (s : State) (n : Nat) (hs : List HostMove), s.PortFree → s.host = .wait n :: hs →
    step s = .next { s with now := s.now + BitVec.ofNat 64 n, host := hs }) ∧
  (∀ (s : State) (hs : List HostMove), s.PortFree → s.host = .pass :: hs → step s = .next { s with host := hs })

/-! ### Frame Codec and Universe Buffer -/

/-- ENCODE answers the frame of its data and changes nothing else; with more than 512 bytes it raises EncodingError
(40_frame_codec.md R121). -/
def Obligations.EncodeCommand : Prop :=
  ∀ (s : State) (data : List Byte),
    encode (.encode data) = 0x10#8 :: (le16 (BitVec.ofNat 16 data.length) ++ data) ∧
    (data.length ≤ 512 → ∃ t, exec (.encode data) s = .next t ∧ OnlyResponse s t ⟨.ok, frame data⟩) ∧
    (512 < data.length → exec (.encode data) s =
      .next { s with eEnc := true, respLog := s.respLog ++ [⟨.encodingError, []⟩] })

/-- SETCH writes the clamped value to one channel and nothing else; outside 1..512 it raises OutOfRangeError
(41_universe_buffer.md R141). -/
def Obligations.SetchCommand : Prop :=
  ∀ (s : State) (index value : Half),
    encode (.setch index value) = 0x20#8 :: (le16 index ++ le16 value) ∧
    (1 ≤ index.toNat → index.toNat ≤ 512 → ∃ t, exec (.setch index value) s = .next t ∧
      OnlyUniverse s t ⟨.ok, []⟩ ∧ ChannelSet s.u t.u index.toNat (clamp8 value)) ∧
    (index.toNat = 0 ∨ 512 < index.toNat → exec (.setch index value) s = .next s.afterOor)

/-- GETCH answers the channel's value and changes nothing else; outside 1..512 it raises OutOfRangeError
(41_universe_buffer.md R142). -/
def Obligations.GetchCommand : Prop :=
  ∀ (s : State) (index : Half),
    encode (.getch index) = 0x21#8 :: le16 index ∧
    (1 ≤ index.toNat → index.toNat ≤ 512 → ∃ t, exec (.getch index) s = .next t ∧
      OnlyResponse s t ⟨.ok, [s.u.read index.toNat]⟩) ∧
    (index.toNat = 0 ∨ 512 < index.toNat → exec (.getch index) s = .next s.afterOor)

/-- GETCH after SETCH of the same channel answers the clamped value (41_universe_buffer.md R142, corner cases). -/
def Obligations.SetThenGetRoundTrip : Prop :=
  ∀ (s t : State) (c v : Half), 1 ≤ c.toNat → c.toNat ≤ 512 → exec (.setch c v) s = .next t →
    ∃ t', exec (.getch c) t = .next t' ∧ OnlyResponse t t' ⟨.ok, [clamp8 v]⟩

/-- SETRNG writes all its channels, each clamped, or none (41_universe_buffer.md R143). -/
def Obligations.SetrngCommand : Prop :=
  ∀ (s : State) (start : Half) (values : List Half),
    encode (.setrng start values) =
      0x22#8 :: (le16 start ++ le16 (BitVec.ofNat 16 values.length) ++ values.flatMap le16) ∧
    (1 ≤ start.toNat → start.toNat ≤ 512 → start.toNat + values.length ≤ 513 →
      ∃ t, exec (.setrng start values) s = .next t ∧ OnlyUniverse s t ⟨.ok, []⟩ ∧
        RangeSet s.u t.u start.toNat (values.map clamp8)) ∧
    (start.toNat = 0 ∨ 512 < start.toNat ∨ 513 < start.toNat + values.length →
      exec (.setrng start values) s = .next s.afterOor)

/-- VIEW builds one slot and changes nothing else; a missing slot or a range that does not fit raises OutOfRangeError
and the slot keeps what it held (41_universe_buffer.md R144). -/
def Obligations.ViewCommand : Prop :=
  ∀ (s : State) (v : Byte) (start count : Half),
    encode (.view v start count) = 0x28#8 :: v :: (le16 start ++ le16 count) ∧
    (v.toNat < s.views.length → 1 ≤ start.toNat → start.toNat ≤ 512 →
      (start.toNat : Int) ≤ 512 - (count.toNat : Int) + 1 →
      ∃ t w, exec (.view v start count) s = .next t ∧
        t = { s with views := s.views.set v.toNat w, respLog := s.respLog ++ [⟨.ok, []⟩] } ∧
        w.start.toNat = start.toNat ∧ w.count.toNat = count.toNat ∧ w.valid = true) ∧
    (s.views.length ≤ v.toNat ∨ start.toNat = 0 ∨ 512 < start.toNat ∨
      512 - (count.toNat : Int) + 1 < (start.toNat : Int) →
      exec (.view v start count) s = .next s.afterOor)

/-- VSET writes the clamped value to the channel `VSTART[v] + off` and nothing else; a missing slot, a slot never built
or an offset outside the view raises OutOfRangeError (41_universe_buffer.md R145, 10_state.md R27). -/
def Obligations.VsetCommand : Prop :=
  ∀ (s : State) (v : Byte) (off value : Half),
    encode (.vset v off value) = 0x29#8 :: v :: (le16 off ++ le16 value) ∧
    (∀ w, s.views[v.toNat]? = some w → w.valid = true → off.toNat < w.count.toNat →
      ∃ t, exec (.vset v off value) s = .next t ∧ OnlyUniverse s t ⟨.ok, []⟩ ∧
        ChannelSet s.u t.u (w.start.toNat + off.toNat) (clamp8 value)) ∧
    (s.views[v.toNat]? = none ∨
      (∃ w, s.views[v.toNat]? = some w ∧ (w.valid = false ∨ w.count.toNat ≤ off.toNat)) →
      exec (.vset v off value) s = .next s.afterOor)

/-- VGET answers the channel `VSTART[v] + off` and changes nothing else; it refuses as VSET does
(41_universe_buffer.md R146). -/
def Obligations.VgetCommand : Prop :=
  ∀ (s : State) (v : Byte) (off : Half),
    encode (.vget v off) = 0x2A#8 :: v :: le16 off ∧
    (∀ w, s.views[v.toNat]? = some w → w.valid = true → off.toNat < w.count.toNat →
      ∃ t, exec (.vget v off) s = .next t ∧ OnlyResponse s t ⟨.ok, [s.u.read (w.start.toNat + off.toNat)]⟩) ∧
    (s.views[v.toNat]? = none ∨
      (∃ w, s.views[v.toNat]? = some w ∧ (w.valid = false ∨ w.count.toNat ≤ off.toNat)) →
      exec (.vget v off) s = .next s.afterOor)

/-- A view access that passes its check addresses a channel in 1..512 (20_memory.md R63), for every slot that keeps the
view invariant of 10_state.md R26. -/
def Obligations.ViewAccessInRange : Prop :=
  ∀ (s : State) (v : Byte) (off : Half), s.ViewsOk → s.viewAccessOk v off = true →
    1 ≤ s.viewChan v off ∧ s.viewChan v off ≤ 512

/-- TRANSMIT with an open handle whose write the transport accepts whole: one frame of the universe in `tx_log`, the
response OK, the write's ticks passed; no register changes but CANCEL by a request raised meanwhile in a run
(41_universe_buffer.md R147, R148; 43_oscillator.md R204). -/
def Obligations.TransmitSendsUniverse : Prop :=
  encode .transmit = [0x23#8] ∧
  ∀ (s : State) (d : Nat), s.tpOpen = true → s.reply = .answered (.ok 518) d →
    exec .transmit s = .next { s.wrote s.u (.ok 518) d with respLog := s.respLog ++ [⟨.ok, []⟩] }

/-- TRANSMIT whose write is answered with anything but Ok(518), or on a released handle, raises TransmitError with the
cause; on a released handle no write is attempted and no time passes (41_universe_buffer.md R147, R148; 60_exceptions.md
R250). -/
def Obligations.TransmitFails : Prop :=
  ∀ s : State,
    (s.tpOpen = false → exec .transmit s =
      .next { s with eTx := true, respLog := s.respLog ++ [⟨.transmitError, [0#8]⟩] }) ∧
    (∀ a d, s.tpOpen = true → s.reply = .answered a d → a ≠ .ok 518 →
      exec .transmit s = .next { s.wrote s.u a d with
        eTx := true
        respLog := s.respLog ++ [⟨.transmitError, [if a = .err then 1#8 else 2#8]⟩] })

/-- A write that never returns, of TRANSMIT, of a phase frame, of a final frame or of the best-effort frame of the fail
path, keeps the block inside it: no response and no entry of `tx_log`. There only NOW and the cancel latch go on, and no
step but a reset brings a response or an entry (70_reset_and_hazards.md R275; 43_oscillator.md R199, R202, R203; log
entries 9 and 13). -/
def Obligations.UnansweredWriteHangs : Prop :=
  (∀ s : State, s.tpOpen = true → s.reply = .never → exec .transmit s = .next s.unanswered) ∧
  (∀ s : State, s.hung = false → s.HostPassive → s.tpOpen = true → s.reply = .never →
    (s.osc = .running .phase →
      step s = .next { s.unanswered with titer := s.now, u := s.snapOf s.phase }) ∧
    (∀ e, s.osc = .running (.finish e) → step s = .next { s.unanswered with u := s.snapSafe }) ∧
    (∀ c, s.osc = .running (.fail c) →
      step s = .next { s.unanswered with u := s.snapSafe, eTx := true })) ∧
  (∀ s : State, s.hung = true → s.HostPassive →
    step s = .next { s with
      now := s.now + 1#64
      cancel := s.cancel || (s.osc.isRunning && (hostDuring 1 s.host).1)
      host := (hostDuring 1 s.host).2 }) ∧
  (∀ s t : State, s.hung = true → s.host.head? ≠ some .reset → step s = .next t →
    t.hung = true ∧ t.respLog = s.respLog ∧ t.txLog = s.txLog ∧ t.u = s.u)

/-- CLOSE releases the handle once, answers OK always, and changes nothing else; after it a second CLOSE is a no-op
(41_universe_buffer.md R149). -/
def Obligations.CloseCommand : Prop :=
  encode .close = [0x24#8] ∧
  ∀ s : State,
    (s.tpOpen = true → exec .close s =
      .next { s with tpOpen := false, txLog := s.txLog ++ [.close], respLog := s.respLog ++ [⟨.ok, []⟩] }) ∧
    (s.tpOpen = false → ∃ t, exec .close s = .next t ∧ OnlyResponse s t ⟨.ok, []⟩)

/-! ### Fixture Channel Map -/

/-- DIMMER, RED, GREEN, BLUE, STROBERATE and PROGRAM write the clamped value to the channel at their offset from the
base and nothing else; a base outside 1..507 raises OutOfRangeError (42_fixture_map.md R170 to R177). -/
def Obligations.ControlCommands : Prop :=
  ∀ p ∈ [(0, Instr.dimmer), (1, Instr.red), (2, Instr.green), (3, Instr.blue), (4, Instr.stroberate),
      (5, Instr.program)], ∀ (s : State) (base value : Half),
    encode (p.2 base value) = BitVec.ofNat 8 (0x30 + p.1) :: (le16 base ++ le16 value) ∧
    (1 ≤ base.toNat → base.toNat ≤ 507 → ∃ t, exec (p.2 base value) s = .next t ∧ OnlyUniverse s t ⟨.ok, []⟩ ∧
      ChannelSet s.u t.u (base.toNat + p.1) (clamp8 value)) ∧
    (base.toNat = 0 ∨ 507 < base.toNat → exec (p.2 base value) s = .next s.afterOor)

/-- SETRGB writes red, green and blue and nothing else, all three or none (42_fixture_map.md R178). -/
def Obligations.SetrgbCommand : Prop :=
  ∀ (s : State) (base r g b : Half),
    encode (.setrgb base r g b) = 0x36#8 :: (le16 base ++ le16 r ++ le16 g ++ le16 b) ∧
    (1 ≤ base.toNat → base.toNat ≤ 507 → ∃ t, exec (.setrgb base r g b) s = .next t ∧ OnlyUniverse s t ⟨.ok, []⟩ ∧
      ∀ a, t.u.read a =
        if a = base.toNat + 1 then clamp8 r else if a = base.toNat + 2 then clamp8 g
        else if a = base.toNat + 3 then clamp8 b else s.u.read a) ∧
    (base.toNat = 0 ∨ 507 < base.toNat → exec (.setrgb base r g b) s = .next s.afterOor)

/-- With a valid base, a single-control command is exactly a SETCH to the mapped channel (42_fixture_map.md R179). -/
def Obligations.ControlIsSetch : Prop :=
  ∀ p ∈ [(0, Instr.dimmer), (1, Instr.red), (2, Instr.green), (3, Instr.blue), (4, Instr.stroberate),
      (5, Instr.program)], ∀ (s : State) (base value : Half), 1 ≤ base.toNat → base.toNat ≤ 507 →
    exec (p.2 base value) s = exec (.setch (base + BitVec.ofNat 16 p.1) value) s

/-! ### Timed Oscillator: commands -/

/-- ARMON, ARMOFF, ARMSAFE copy the universe into one snapshot, CLRSAFE zeroes SAFE; nothing else changes
(43_oscillator.md R191 to R194). -/
def Obligations.ArmCommands : Prop :=
  encode .armon = [0x40#8] ∧ encode .armoff = [0x41#8] ∧ encode .armsafe = [0x42#8] ∧ encode .clrsafe = [0x43#8] ∧
  ∀ s : State,
    exec .armon s = .next { s with snapOn := s.u, respLog := s.respLog ++ [⟨.ok, []⟩] } ∧
    exec .armoff s = .next { s with snapOff := s.u, respLog := s.respLog ++ [⟨.ok, []⟩] } ∧
    exec .armsafe s = .next { s with snapSafe := s.u, respLog := s.respLog ++ [⟨.ok, []⟩] } ∧
    ∃ t, exec .clrsafe s = .next t ∧
      t = { s with snapSafe := t.snapSafe, respLog := s.respLog ++ [⟨.ok, []⟩] } ∧ ∀ a, t.snapSafe.read a = 0#8

/-- The start step of STROBE: HALF, DUR, CANCEL, PHASE, PHASECNT, T0 and OSC_STATE are set, no response is sent and
nothing else changes; a zero frequency or a reserved phase raises OutOfRangeError (43_oscillator.md R195, R197). -/
def Obligations.StrobeCommand : Prop :=
  ∀ (s : State) (freqMhz durMs : Word) (phase0 : Byte),
    encode (.strobe freqMhz durMs phase0) = 0x44#8 :: (le32 freqMhz ++ le32 durMs ++ [phase0]) ∧
    (0 < freqMhz.toNat → phase0.toNat ≤ 1 → s.tickHz ≤ 1000000000 →
      ∃ t, exec (.strobe freqMhz durMs phase0) s = .next t ∧
        t = { s with
          half := t.half, dur := t.dur, cancel := false, phase := t.phase, phaseCnt := 0#32, t0 := s.now
          osc := .running .top } ∧
        t.half.toNat = 500 * s.tickHz / freqMhz.toNat ∧ t.dur.toNat = durMs.toNat * (s.tickHz / 1000) ∧
        (t.phase = true ↔ phase0.toNat = 1)) ∧
    (freqMhz.toNat = 0 ∨ 1 < phase0.toNat → exec (.strobe freqMhz durMs phase0) s = .next s.afterOor)

/-- RDSR answers SR and PHASECNT, both little-endian, and changes nothing (43_oscillator.md R208). -/
def Obligations.RdsrCommand : Prop :=
  ∀ s : State,
    encode .rdsr = [0x45#8] ∧
    ∃ t, exec .rdsr s = .next t ∧ OnlyResponse s t ⟨.ok, le16 s.sr ++ le32 s.phaseCnt⟩

/-- Every field of SR where 10_state.md R32 puts it, the reserved bits 0, with the codes of OSC_STATE (R33). -/
def Obligations.StatusRegisterFields : Prop :=
  ∀ s : State,
    (s.osc = .idle → s.sr.extractLsb' 0 3 = 0#3) ∧ (s.osc.isRunning = true → s.sr.extractLsb' 0 3 = 1#3) ∧
    (s.osc = .stopped → s.sr.extractLsb' 0 3 = 2#3) ∧ (s.osc = .completed → s.sr.extractLsb' 0 3 = 3#3) ∧
    (s.osc = .failed → s.sr.extractLsb' 0 3 = 4#3) ∧
    s.sr.getLsbD 3 = s.phase ∧ s.sr.getLsbD 4 = s.tpOpen ∧
    s.sr.getLsbD 5 = s.cancel ∧ s.sr.extractLsb' 6 2 = 0#2 ∧ s.sr.getLsbD 8 = s.eEnc ∧
    s.sr.getLsbD 9 = s.eOor ∧ s.sr.getLsbD 10 = s.eTx ∧ s.sr.getLsbD 11 = s.eIll ∧ s.sr.extractLsb' 12 4 = 0#4

/-! ### Timed Oscillator: the loop -/

/-- The top of an iteration: the duration first, then CANCEL, else a phase transmission; nothing else changes but that a
pass of HOST is over (43_oscillator.md R198; log entries 1 and 6). -/
def Obligations.TopOfIteration : Prop :=
  ∀ s : State, s.osc = .running .top → s.hung = false → s.HostPassive →
    (s.dur.toNat ≤ (s.now - s.t0).toNat →
      step s = .next (s.endPass { s with osc := .running (.finish .completed) })) ∧
    ((s.now - s.t0).toNat < s.dur.toNat → s.cancel = true →
      step s = .next (s.endPass { s with osc := .running (.finish .stopped) })) ∧
    ((s.now - s.t0).toNat < s.dur.toNat → s.cancel = false →
      step s = .next (s.endPass { s with osc := .running .phase }))

/-- A phase transmission: TITER, the phase's snapshot in U, one frame of it; a cancel request raised meanwhile is latched
and no other one; success counts and goes on to the sleep, failure goes to the fail path with its cause, a closed handle
writes nothing (43_oscillator.md R199; an unanswered write is in UnansweredWriteHangs). Replies, HOST's moves, the loop's
position and the order of a request at the write's last tick are the model's (log entries 1, 2, 6, 14). -/
def Obligations.PhaseTransmission : Prop :=
  ∀ s : State, s.osc = .running .phase → s.hung = false → s.HostPassive →
    (∀ d, s.tpOpen = true → s.reply = .answered (.ok 518) d →
      step s = .next (s.endPass { s.wrote (s.snapOf s.phase) (.ok 518) d with
        titer := s.now, u := s.snapOf s.phase, phaseCnt := s.phaseCnt + 1#32, osc := .running .sleep })) ∧
    (∀ a d, s.tpOpen = true → s.reply = .answered a d → a ≠ .ok 518 →
      step s = .next (s.endPass { s.wrote (s.snapOf s.phase) a d with
        titer := s.now, u := s.snapOf s.phase, osc := .running (.fail (failCause a)) })) ∧
    (s.tpOpen = false → step s =
      .next (s.endPass { s with titer := s.now, u := s.snapOf s.phase, osc := .running (.fail .closed) }))

/-- The sleep ends exactly HALF ticks after TITER, or at once if that many have passed; a cancel request raised in it is
latched, does not cut it short, and CANCEL keeps its value if none is raised (43_oscillator.md R200, R204). That the sleep
is one step, HOST's moves and the order of a request at its last tick are the model's (log entries 1, 3, 6, 14). -/
def Obligations.SleepIsExact : Prop :=
  ∀ s : State, s.osc = .running .sleep → s.hung = false → s.HostPassive →
    step s = .next (s.endPass { s with
      now := if (s.now - s.titer).toNat ≤ s.half.toNat then s.titer + s.half else s.now
      osc := .running .flip
      cancel := s.cancel || (hostDuring s.sleepTicks s.host).1
      host := (hostDuring s.sleepTicks s.host).2 }) ∧
    s.now + BitVec.ofNat 64 s.sleepTicks =
      if (s.now - s.titer).toNat ≤ s.half.toNat then s.titer + s.half else s.now

/-- The flip: PHASE inverted, in no time, and back to the top (43_oscillator.md R201; log entries 1 and 6). -/
def Obligations.FlipInvertsPhase : Prop :=
  ∀ s : State, s.osc = .running .flip → s.hung = false → s.HostPassive →
    step s = .next (s.endPass { s with phase := !s.phase, osc := .running .top })

/-- The final frame: U <- SAFE and one frame of it; success gives the terminal state and the OK response with PHASECNT,
failure gives Failed and TransmitError with the cause, with no further attempt; CANCEL keeps its value unless a request
is raised meanwhile (43_oscillator.md R202, R204; an unanswered write is in UnansweredWriteHangs). That a request at the
very tick the write ends is latched and not dropped is the model's choice (log entry 14), and a pass of HOST puts it after
the run's end; replies, HOST's moves and the loop's position are the model's too (log entries 1, 2, 6). -/
def Obligations.FinalFrame : Prop :=
  ∀ (s : State) (e : RunEnd), s.osc = .running (.finish e) → s.hung = false → s.HostPassive →
    (∀ d, s.tpOpen = true → s.reply = .answered (.ok 518) d →
      step s = .next (s.endPass { s.wrote s.snapSafe (.ok 518) d with
        u := s.snapSafe
        osc := if e = .completed then .completed else .stopped
        respLog := s.respLog ++ [⟨.ok, (if e = .completed then 3#8 else 2#8) :: le32 s.phaseCnt⟩] })) ∧
    (∀ a d, s.tpOpen = true → s.reply = .answered a d → a ≠ .ok 518 →
      step s = .next (s.endPass { s.wrote s.snapSafe a d with
        u := s.snapSafe, osc := .failed, eTx := true
        respLog := s.respLog ++ [⟨.transmitError, [if a = .err then 1#8 else 2#8]⟩] })) ∧
    (s.tpOpen = false → step s = .next (s.endPass { s with
      u := s.snapSafe, osc := .failed, eTx := true, respLog := s.respLog ++ [⟨.transmitError, [0#8]⟩] })) ∧
    (∀ (hs : List HostMove) (t : State), s.host = .pass :: hs → step s = .next t → t.hung = false →
      t.host = hs ∧ t.cancel = s.cancel)

/-- The fail path: E_TX, U <- SAFE, one best-effort frame whose answer is ignored, Failed, TransmitError with the first
cause; on a closed handle nothing is written; CANCEL keeps its value unless a request is raised meanwhile
(43_oscillator.md R203, R204; an unanswered write is in UnansweredWriteHangs). That a request at the very tick the write
ends is latched and not dropped is the model's choice (log entry 14), and a pass of HOST puts it after the run's end;
replies, HOST's moves and the loop's position are the model's too (log entries 1, 2, 6). -/
def Obligations.FailPath : Prop :=
  ∀ (s : State) (c : TxCause), s.osc = .running (.fail c) → s.hung = false → s.HostPassive →
    (∀ a d, s.tpOpen = true → s.reply = .answered a d →
      step s = .next (s.endPass { s.wrote s.snapSafe a d with
        u := s.snapSafe, osc := .failed, eTx := true
        respLog := s.respLog ++ [⟨.transmitError, [c.byte]⟩] })) ∧
    (s.tpOpen = false → step s = .next (s.endPass { s with
      u := s.snapSafe, osc := .failed, eTx := true, respLog := s.respLog ++ [⟨.transmitError, [c.byte]⟩] })) ∧
    (∀ (hs : List HostMove) (t : State), s.host = .pass :: hs → step s = .next t → t.hung = false →
      t.host = hs ∧ t.cancel = s.cancel)

/-- However a run ends, U equals SAFE; a run that ends as Stopped or Completed has sent SAFE as its last frame and
answered OK, a run that ends as Failed has answered TransmitError (43_oscillator.md R205 (b), (d); 60_exceptions.md
R243). -/
def Obligations.RunEndsOnSafe : Prop :=
  ∀ s t : State, s.osc.isRunning = true → s.host.head? ≠ some .reset → step s = .next t → t.osc.isRunning = false →
    t.u = t.snapSafe ∧ t.snapSafe = s.snapSafe ∧
    ((t.osc = .stopped ∨ t.osc = .completed) ∧ t.txLog = s.txLog ++ [sentOk t.snapSafe] ∧
        (∃ d, t.respLog = s.respLog ++ [⟨.ok, d⟩]) ∨
      t.osc = .failed ∧ t.eTx = true ∧ ∃ c, t.respLog = s.respLog ++ [⟨.transmitError, [c]⟩])

/-- A transmission answered with anything but Ok(518) never leads to OK (60_exceptions.md R237). TRANSMIT answers OK only
with the whole frame accepted, and TransmitError after a failed write; PHASECNT moves only with the whole frame accepted,
and a failed phase frame goes to the fail path, which stays there until it answers TransmitError; a run answers OK only
with the whole final frame accepted, and a failed final frame ends it as Failed with TransmitError. -/
def Obligations.FailedWriteNeverReportsOk : Prop :=
  (∀ s t : State, exec .transmit s = .next t →
    (t.respLog = s.respLog ++ [⟨.ok, []⟩] → t.txLog = s.txLog ++ [sentOk s.u]) ∧
    (∀ bytes a, t.txLog = s.txLog ++ [.write bytes a] → a ≠ .ok 518 →
      ∃ c, t.respLog = s.respLog ++ [⟨.transmitError, [c]⟩])) ∧
  (∀ s t : State, s.osc = .running .phase → step s = .next t → s.host.head? ≠ some .reset →
    (t.phaseCnt ≠ s.phaseCnt → t.txLog = s.txLog ++ [sentOk t.u]) ∧ t.respLog = s.respLog ∧
    (∀ bytes a, t.txLog = s.txLog ++ [.write bytes a] → a ≠ .ok 518 →
      t.osc = .running (.fail (failCause a)) ∧ t.phaseCnt = s.phaseCnt)) ∧
  (∀ (s t : State) (c : TxCause), s.osc = .running (.fail c) → step s = .next t → s.host.head? ≠ some .reset →
    (t.osc = s.osc ∧ t.respLog = s.respLog) ∨
      (t.osc = .failed ∧ t.respLog = s.respLog ++ [⟨.transmitError, [c.byte]⟩])) ∧
  (∀ (s t : State) (e : RunEnd), s.osc = .running (.finish e) → step s = .next t → s.host.head? ≠ some .reset →
    (∀ d, t.respLog = s.respLog ++ [⟨.ok, d⟩] → t.txLog = s.txLog ++ [sentOk s.snapSafe]) ∧
    (∀ bytes a, t.txLog = s.txLog ++ [.write bytes a] → a ≠ .ok 518 →
      t.osc = .failed ∧ ∃ c, t.respLog = s.respLog ++ [⟨.transmitError, [c]⟩]))

/-- Successive phase transmissions alternate, starting with phase0, whatever the transport's timing: the start step
fixes the first phase and no step of a run but a reset changes it (43_oscillator.md R201, R205 (a)). -/
def Obligations.PhasesAlternate : Prop :=
  (∀ (s t : State) (f d : Word) (p : Byte), f.toNat ≠ 0 → p.toNat ≤ 1 → exec (.strobe f d p) s = .next t →
    (t.firstPhase = true ↔ p.toNat = 1)) ∧
  (∀ s t : State, s.osc.isRunning = true → s.host.head? ≠ some .reset → step s = .next t →
    t.firstPhase = s.firstPhase)

/-- CANCEL is read at the top of an iteration and nowhere else: at every other point of a run, setting it beforehand
changes nothing but itself (43_oscillator.md R198, R204). -/
def Obligations.CancelReadOnlyAtTop : Prop :=
  ∀ (s t : State) (pos : LoopPos), s.osc = .running pos → pos ≠ .top → s.host.head? ≠ some .reset →
    step s = .next t → step { s with cancel := true } = .next { t with cancel := true }

/-- Under ideal timing iteration `k` starts exactly at `T0 + k × HALF`, with `k` phase transmissions made
(43_oscillator.md R206). -/
def Obligations.IdealIterationStarts : Prop :=
  ∀ (s : State) (k : Nat), s.IdealStart → k ≤ s.idealCount → GoodReplies s.half.toNat k s.replies →
    ∃ t, s.runFor (4 * k) = .next t ∧ t.osc = .running .top ∧
      t.now = s.t0 + BitVec.ofNat 64 (k * s.half.toNat) ∧ t.phaseCnt = s.phaseCnt + BitVec.ofNat 32 k ∧
      t.phase = (if k % 2 = 0 then s.phase else !s.phase) ∧ t.txLog = s.txLog ++ s.phaseFrames s.phase k ∧
      t.respLog = s.respLog

/-- Under ideal timing a run makes `N = ceil(DUR / HALF)` phase transmissions that alternate, ends as Completed with the
safe frame started at `T0 + N × HALF`, and that is within one HALF of DUR (43_oscillator.md R205, R206, R207). -/
def Obligations.IdealRunCompletes : Prop :=
  ∀ (s : State) (d : Nat) (rest : List TxReply), s.IdealStart →
    GoodReplies s.half.toNat s.idealCount s.replies →
    s.replies.drop s.idealCount = .answered (.ok 518) d :: rest →
    s.dur.toNat ≤ s.idealCount * s.half.toNat ∧ s.idealCount * s.half.toNat < s.dur.toNat + s.half.toNat ∧
    ∃ t, s.runFor (4 * s.idealCount + 2) = .next t ∧ t.osc = .completed ∧ t.u = s.snapSafe ∧
      t.now = s.t0 + BitVec.ofNat 64 (s.idealCount * s.half.toNat + d) ∧
      t.phaseCnt = s.phaseCnt + BitVec.ofNat 32 s.idealCount ∧
      t.txLog = s.txLog ++ s.phaseFrames s.phase s.idealCount ++ [sentOk s.snapSafe] ∧
      t.respLog = s.respLog ++ [⟨.ok, 3#8 :: le32 t.phaseCnt⟩]

/-! ### The whole machine -/

/-- Every step keeps the invariant of the machine: the files are 512 byte registers in canonical form, every valid slot
keeps the view invariant, `tx_log` is full-universe frames and at most one close, and every response has its form
(10_state.md R21, R26; 30_encoding.md R95, R105; 41_universe_buffer.md R149; 60_exceptions.md R234). -/
def Obligations.StepKeepsInvariant : Prop := ∀ s t : State, s.Inv → step s = .next t → t.Inv

/-- The invariant holds after reset. -/
def Obligations.ResetHasInvariant : Prop := State.reset.Inv

/-- A command raises OutOfRangeError exactly on the conditions of 60_exceptions.md R232, and then changes only `E_OOR`
and answers with no data; otherwise it leaves `E_OOR` as it is and sends no such response, whatever its values. -/
def Obligations.OutOfRangeTable : Prop :=
  ∀ (i : Instr) (s : State),
    (OutOfRange s i → exec i s = .next s.afterOor) ∧
    (¬ OutOfRange s i → ∃ t, exec i s = .next t ∧ t.eOor = s.eOor ∧
      (t.respLog = s.respLog ∨ ∃ r : Response, t.respLog = s.respLog ++ [r] ∧ r.status ≠ .outOfRangeError))

/-- No command but a STROBE with valid operands changes OSC_STATE, and that one gives Running (43_oscillator.md
R190). -/
def Obligations.OnlyStrobeStartsRun : Prop :=
  ∀ (i : Instr) (s t : State), exec i s = .next t → t.osc ≠ s.osc →
    t.osc = .running .top ∧ ∃ f d p, i = .strobe f d p ∧ f.toNat ≠ 0 ∧ p.toNat ≤ 1

/-- OSC_STATE moves only as the table of 43_oscillator.md R190 says: into Running from every other state, out of Running
into a terminal state, never back to Idle but by reset. -/
def Obligations.OscillatorTransitions : Prop :=
  ∀ s t : State, s.host.head? ≠ some .reset → step s = .next t →
    t.osc = s.osc ∨ (s.osc.isRunning = false ∧ t.osc = .running .top) ∨
    (s.osc.isRunning = true ∧ t.osc ≠ .idle)

/-- No step but a reset clears a sticky bit (10_state.md R31). -/
def Obligations.StickyBitsStay : Prop :=
  ∀ s t : State, s.host.head? ≠ some .reset → step s = .next t → StickyKept s t

/-- The snapshots are written only by ARMON, ARMOFF, ARMSAFE and CLRSAFE, never by a step of a run (10_state.md
R25). -/
def Obligations.SnapshotsWrittenOnlyByArming : Prop :=
  (∀ (i : Instr) (s t : State), exec i s = .next t →
    (t.snapOn ≠ s.snapOn → i = .armon) ∧ (t.snapOff ≠ s.snapOff → i = .armoff) ∧
    (t.snapSafe ≠ s.snapSafe → i = .armsafe ∨ i = .clrsafe)) ∧
  (∀ s t : State, s.osc.isRunning = true → s.host.head? ≠ some .reset → step s = .next t →
    t.snapOn = s.snapOn ∧ t.snapOff = s.snapOff ∧ t.snapSafe = s.snapSafe)

/-- TP_OPEN is written by CLOSE only; nothing but reset sets it (10_state.md R28, 41_universe_buffer.md R149). -/
def Obligations.OnlyCloseReleasesHandle : Prop :=
  (∀ (i : Instr) (s t : State), exec i s = .next t → t.tpOpen ≠ s.tpOpen → i = .close ∧ t.tpOpen = false) ∧
  (∀ s t : State, s.osc.isRunning = true → s.host.head? ≠ some .reset → step s = .next t → t.tpOpen = s.tpOpen)

/-- No step changes the parameters TICK_HZ and NVIEW (00_scope.md R8). -/
def Obligations.ParametersConstant : Prop :=
  ∀ s t : State, step s = .next t → t.tickHz = s.tickHz ∧ t.views.length = s.views.length

/-- Every command but TRANSMIT takes no time and asks nothing of the transport (70_reset_and_hazards.md R273). -/
def Obligations.CommandsTakeNoTime : Prop :=
  ∀ (i : Instr) (s t : State), i ≠ .transmit → exec i s = .next t →
    t.now = s.now ∧ t.replies = s.replies ∧ t.drawn = s.drawn ∧ t.hung = s.hung ∧ t.host = s.host

/-- The transport never writes any state of the block: whatever it replies, a command leaves the same universe,
snapshots, views, handle and oscillator registers, and the same sticky bits but E_TX (10_state.md R21, 60_exceptions.md
R247; the replies are log entry 2). CANCEL is the same too while the oscillator is not Running, as it is for every command
that is accepted; in a run it depends on when HOST raises the request (43_oscillator.md R204). -/
def Obligations.TransportMutatesNothing : Prop :=
  ∀ (i : Instr) (s t t' : State) (rs : List TxReply) (n : Nat), exec i s = .next t →
    exec i { s with replies := rs, drawn := n } = .next t' →
    t'.u = t.u ∧ t'.snapOn = t.snapOn ∧ t'.snapOff = t.snapOff ∧ t'.snapSafe = t.snapSafe ∧ t'.views = t.views ∧
    t'.tpOpen = t.tpOpen ∧ t'.osc = t.osc ∧ t'.phase = t.phase ∧ t'.half = t.half ∧ t'.dur = t.dur ∧ t'.t0 = t.t0 ∧
    t'.titer = t.titer ∧ t'.phaseCnt = t.phaseCnt ∧ t'.eEnc = t.eEnc ∧ t'.eOor = t.eOor ∧ t'.eIll = t.eIll ∧
    (s.osc.isRunning = false → t'.cancel = t.cancel)
end

