-- ==== Sys2Proof/Laws/Memory.lean ====
section
/-! SUPPORT. The laws of a channel file: read after write, and that every operation keeps the canonical form. -/

namespace Sys2Proof.Machine

@[simp] theorem Memory.read_nil (c : Nat) : Memory.read [] c = 0#8 := rfl

@[simp] theorem Memory.read_cons (a : Nat) (b : Byte) (m : Memory) (c : Nat) :
    Memory.read ((a, b) :: m) c = if a = c then b else Memory.read m c := rfl

theorem Memory.wf_nil : Memory.wf [] = true := rfl

theorem Memory.wfFrom_cons {lo a : Nat} {b : Byte} {m : Memory} :
    Memory.wfFrom lo ((a, b) :: m) = true ↔
      lo ≤ a ∧ a ≤ 512 ∧ b ≠ 0#8 ∧ Memory.wfFrom (a + 1) m = true := by
  simp only [Memory.wfFrom, Bool.and_eq_true, decide_eq_true_iff, and_assoc]
  exact Iff.rfl

theorem Memory.wfFrom_mono {lo lo' : Nat} (h : lo' ≤ lo) {m : Memory} (hm : Memory.wfFrom lo m = true) :
    Memory.wfFrom lo' m = true := by
  cases m with
  | nil => rfl
  | cons p m =>
    obtain ⟨a, b⟩ := p
    rw [Memory.wfFrom_cons] at hm ⊢
    exact ⟨h.trans hm.1, hm.2⟩

/-! ### Erase -/

theorem Memory.read_erase (m : Memory) (c a : Nat) :
    (Memory.erase m c).read a = if a = c then 0#8 else m.read a := by
  induction m with
  | nil => simp [Memory.erase]
  | cons p m ih =>
    obtain ⟨x, b⟩ := p
    by_cases hx : x = c <;> by_cases ha : x = a <;> simp_all [Memory.erase]

theorem Memory.ne_of_mem_erase {m : Memory} {c : Nat} {p : Host.Cell} (h : p ∈ Memory.erase m c) : p.1 ≠ c := by
  induction m with
  | nil => simp [Memory.erase] at h
  | cons q m ih =>
    obtain ⟨x, b⟩ := q
    by_cases hx : x = c
    · exact ih (by simpa [Memory.erase, hx] using h)
    · rcases (by simpa [Memory.erase, hx] using h : p = (x, b) ∨ p ∈ Memory.erase m c) with rfl | h'
      · exact hx
      · exact ih h'

theorem Memory.wfFrom_erase {lo : Nat} {m : Memory} (c : Nat) (h : Memory.wfFrom lo m = true) :
    Memory.wfFrom lo (Memory.erase m c) = true := by
  induction m generalizing lo with
  | nil => rfl
  | cons p m ih =>
    obtain ⟨x, b⟩ := p
    obtain ⟨h1, h2, h3, h4⟩ := Memory.wfFrom_cons.1 h
    by_cases hx : x = c
    · rw [Memory.erase, if_pos hx]
      exact Memory.wfFrom_mono (by omega) (ih h4)
    · rw [Memory.erase, if_neg hx, Memory.wfFrom_cons]
      exact ⟨h1, h2, h3, ih h4⟩

/-! ### Insert -/

theorem Memory.read_insert {m : Memory} {c : Nat} (v : Byte) (a : Nat) (h : ∀ p ∈ m, p.1 ≠ c) :
    (Memory.insert m c v).read a = if a = c then v else m.read a := by
  induction m with
  | nil =>
    rw [Memory.insert, Memory.read_cons]
    by_cases ha : a = c
    · rw [if_pos ha.symm, if_pos ha]
    · rw [if_neg (Ne.symm ha), if_neg ha]
  | cons p m ih =>
    obtain ⟨x, b⟩ := p
    have hx : x ≠ c := h (x, b) (by simp)
    have ih' := ih fun q hq => h q (by simp [hq])
    by_cases hlt : c < x
    · by_cases ha : a = c
      · simp [Memory.insert, hlt, ha]
      · simp [Memory.insert, hlt, ha, Ne.symm ha]
    · rw [Memory.insert, if_neg hlt, Memory.read_cons, ih', Memory.read_cons]
      by_cases ha : a = c
      · simp [ha, hx]
      · simp [ha]

theorem Memory.wfFrom_insert {lo : Nat} {m : Memory} {c : Nat} {v : Byte} (hm : Memory.wfFrom lo m = true)
    (hc : ∀ p ∈ m, p.1 ≠ c) (hlo : lo ≤ c) (hhi : c ≤ 512) (hv : v ≠ 0#8) :
    Memory.wfFrom lo (Memory.insert m c v) = true := by
  induction m generalizing lo with
  | nil => exact Memory.wfFrom_cons.2 ⟨hlo, hhi, hv, rfl⟩
  | cons p m ih =>
    obtain ⟨x, b⟩ := p
    obtain ⟨h1, h2, h3, h4⟩ := Memory.wfFrom_cons.1 hm
    have hx : x ≠ c := hc (x, b) (by simp)
    by_cases hlt : c < x
    · rw [Memory.insert, if_pos hlt]
      exact Memory.wfFrom_cons.2 ⟨hlo, hhi, hv, Memory.wfFrom_cons.2 ⟨hlt, h2, h3, h4⟩⟩
    · rw [Memory.insert, if_neg hlt]
      exact Memory.wfFrom_cons.2 ⟨h1, h2, h3, ih h4 (fun q hq => hc q (by simp [hq])) (by omega)⟩

/-! ### Write -/

theorem Memory.read_write (m : Memory) (c : Nat) (v : Byte) (a : Nat) :
    (m.write c v).read a = if a = c then v else m.read a := by
  unfold Memory.write
  split
  · next h => subst h; exact Memory.read_erase m c a
  · rw [Memory.read_insert v a fun p => Memory.ne_of_mem_erase, Memory.read_erase]
    by_cases ha : a = c <;> simp [ha]

theorem Memory.wf_write {m : Memory} {c : Nat} (v : Byte) (hm : m.wf = true) (h1 : 1 ≤ c) (h2 : c ≤ 512) :
    (m.write c v).wf = true := by
  unfold Memory.write
  split
  · exact Memory.wfFrom_erase c hm
  · next h => exact Memory.wfFrom_insert (Memory.wfFrom_erase c hm) (fun p => Memory.ne_of_mem_erase) h1 h2 h

theorem Memory.read_writeAll (m : Memory) (c : Nat) (vs : List Byte) (a : Nat) :
    (m.writeAll c vs).read a = if c ≤ a ∧ a < c + vs.length then vs.getD (a - c) 0#8 else m.read a := by
  induction vs generalizing m c with
  | nil =>
    rw [Memory.writeAll, if_neg (by simp)]
  | cons v vs ih =>
    rw [Memory.writeAll, ih, Memory.read_write]
    rcases Nat.lt_trichotomy a c with h | h | h
    · rw [if_neg (by omega), if_neg (by omega), if_neg (by simp; omega)]
    · subst h
      rw [if_neg (by omega), if_pos rfl, if_pos (by simp)]
      simp
    · obtain ⟨k, rfl⟩ : ∃ k, a = c + 1 + k := ⟨a - (c + 1), by omega⟩
      have e1 : c + 1 + k - (c + 1) = k := by omega
      have e2 : c + 1 + k - c = k + 1 := by omega
      rw [e1, e2, if_neg (show c + 1 + k ≠ c by omega)]
      by_cases hk : k < vs.length
      · rw [if_pos (by omega), if_pos (by simp; omega)]
        simp
      · rw [if_neg (by omega), if_neg (by simp; omega)]

theorem Memory.wf_writeAll {m : Memory} {c : Nat} (vs : List Byte) (hm : m.wf = true) (h1 : 1 ≤ c)
    (h2 : c + vs.length ≤ 513) : (m.writeAll c vs).wf = true := by
  induction vs generalizing m c with
  | nil => exact hm
  | cons v vs ih =>
    simp only [List.length_cons] at h2
    exact ih (Memory.wf_write v hm h1 (by omega)) (by omega) (by omega)

/-! ### Reading a range -/

@[simp] theorem Memory.length_readAll (m : Memory) (c n : Nat) : (m.readAll c n).length = n := by
  induction n generalizing c with
  | zero => rfl
  | succ n ih => simp [Memory.readAll, ih]

theorem Memory.getElem?_readAll (m : Memory) (c n k : Nat) :
    (m.readAll c n)[k]? = if k < n then some (m.read (c + k)) else none := by
  induction n generalizing c k with
  | zero => simp [Memory.readAll]
  | succ n ih =>
    cases k with
    | zero => simp [Memory.readAll]
    | succ k =>
      simp only [Memory.readAll, List.getElem?_cons_succ, ih, Nat.add_lt_add_iff_right]
      rw [show c + 1 + k = c + (k + 1) by omega]

/-! ### Equal reads are equal files -/

theorem Memory.read_of_lt_wfFrom {lo a : Nat} {m : Memory} (h : Memory.wfFrom lo m = true) (ha : a < lo) :
    m.read a = 0#8 := by
  induction m generalizing lo with
  | nil => rfl
  | cons p m ih =>
    obtain ⟨x, b⟩ := p
    obtain ⟨h1, -, -, h4⟩ := Memory.wfFrom_cons.1 h
    rw [Memory.read_cons, if_neg (by omega)]
    exact ih h4 (by omega)

/-- Two files in canonical form that read alike are the same data. -/
theorem Memory.eq_of_read_eq {lo : Nat} {m m' : Memory} (h : Memory.wfFrom lo m = true)
    (h' : Memory.wfFrom lo m' = true) (e : ∀ a, m.read a = m'.read a) : m = m' := by
  induction m generalizing lo m' with
  | nil =>
    cases m' with
    | nil => rfl
    | cons q m' =>
      obtain ⟨y, d⟩ := q
      have := e y
      simp at this
      exact absurd this.symm (Memory.wfFrom_cons.1 h').2.2.1
  | cons p m ih =>
    obtain ⟨x, b⟩ := p
    obtain ⟨h1, h2, h3, h4⟩ := Memory.wfFrom_cons.1 h
    cases m' with
    | nil => have := e x; simp at this; exact absurd this h3
    | cons q m' =>
      obtain ⟨y, d⟩ := q
      obtain ⟨g1, g2, g3, g4⟩ := Memory.wfFrom_cons.1 h'
      rcases Nat.lt_trichotomy x y with hxy | rfl | hxy
      · have := e x
        rw [Memory.read_cons, if_pos rfl, Memory.read_cons, if_neg (by omega),
          Memory.read_of_lt_wfFrom g4 (by omega)] at this
        exact absurd this h3
      · have hb : b = d := by have := e x; simpa using this
        subst hb
        congr 1
        refine ih h4 g4 fun a => ?_
        have := e a
        by_cases ha : x = a
        · subst ha
          rw [Memory.read_of_lt_wfFrom h4 (by omega), Memory.read_of_lt_wfFrom g4 (by omega)]
        · simpa [ha] using this
      · have := e y
        rw [Memory.read_cons, if_neg (by omega), Memory.read_of_lt_wfFrom h4 (by omega), Memory.read_cons,
          if_pos rfl] at this
        exact absurd this.symm g3

end Sys2Proof.Machine
end

