-- ==== Sys2Proof/Laws/Codec.lean ====
section
/-! SUPPORT. The byte-order helpers undo each other, and the shape of a frame and a response. -/

namespace Sys2Proof

theorem u16_toNat (lo hi : Byte) : (u16 lo hi).toNat = lo.toNat + 256 * hi.toNat := by
  unfold u16
  rw [BitVec.toNat_append, ← Nat.shiftLeft_add_eq_or_of_lt lo.isLt, Nat.shiftLeft_eq]
  omega

theorem u16_le16 (v : Half) : u16 (v.extractLsb' 0 8) (v.extractLsb' 8 8) = v := by
  apply BitVec.eq_of_toNat_eq
  rw [u16_toNat, BitVec.extractLsb'_toNat, BitVec.extractLsb'_toNat]
  simp only [Nat.shiftRight_eq_div_pow]
  have := v.isLt
  omega

theorem le16_u16 (lo hi : Byte) : le16 (u16 lo hi) = [lo, hi] := by
  have h1 := lo.isLt
  have h2 := hi.isLt
  unfold le16
  congr 1
  · apply BitVec.eq_of_toNat_eq
    rw [BitVec.extractLsb'_toNat, u16_toNat, Nat.shiftRight_eq_div_pow]
    omega
  · congr 1
    apply BitVec.eq_of_toNat_eq
    rw [BitVec.extractLsb'_toNat, u16_toNat, Nat.shiftRight_eq_div_pow]
    omega

theorem u32_toNat (b0 b1 b2 b3 : Byte) :
    (u32 b0 b1 b2 b3).toNat = b0.toNat + 256 * b1.toNat + 65536 * b2.toNat + 16777216 * b3.toNat := by
  have e : u32 b0 b1 b2 b3 = (u16 b2 b3) ++ (u16 b0 b1) := rfl
  have h := (u16 b0 b1).isLt
  rw [e, BitVec.toNat_append, ← Nat.shiftLeft_add_eq_or_of_lt h, Nat.shiftLeft_eq, u16_toNat, u16_toNat]
  omega

theorem u32_le32 (v : Word) :
    u32 (v.extractLsb' 0 8) (v.extractLsb' 8 8) (v.extractLsb' 16 8) (v.extractLsb' 24 8) = v := by
  apply BitVec.eq_of_toNat_eq
  rw [u32_toNat]
  simp only [BitVec.extractLsb'_toNat, Nat.shiftRight_eq_div_pow]
  have := v.isLt
  omega

theorem le32_u32 (b0 b1 b2 b3 : Byte) : le32 (u32 b0 b1 b2 b3) = [b0, b1, b2, b3] := by
  have h0 := b0.isLt
  have h1 := b1.isLt
  have h2 := b2.isLt
  have h3 := b3.isLt
  unfold le32
  have key : ∀ (k : Nat) (b : Byte), (u32 b0 b1 b2 b3).toNat / 2 ^ k % 256 = b.toNat →
      (u32 b0 b1 b2 b3).extractLsb' k 8 = b := by
    intro k b h
    apply BitVec.eq_of_toNat_eq
    rw [BitVec.extractLsb'_toNat, Nat.shiftRight_eq_div_pow]
    exact h
  rw [key 0 b0 (by rw [u32_toNat]; omega), key 8 b1 (by rw [u32_toNat]; omega),
    key 16 b2 (by rw [u32_toNat]; omega), key 24 b3 (by rw [u32_toNat]; omega)]

@[simp] theorem length_le16 (v : Half) : (le16 v).length = 2 := rfl

@[simp] theorem length_le32 (v : Word) : (le32 v).length = 4 := rfl

@[simp] theorem length_le16s (vs : List Half) : (le16s vs).length = 2 * vs.length := by
  induction vs with
  | nil => rfl
  | cons v vs ih => simp [le16s, ih]; omega

theorem halves_le16s (vs : List Half) : halves (le16s vs) = vs := by
  induction vs with
  | nil => rfl
  | cons v vs ih => simp [le16s, le16, halves, ih, u16_le16]

theorem le16s_halves (bs : List Byte) (h : bs.length % 2 = 0) : le16s (halves bs) = bs := by
  induction bs using halves.induct with
  | case1 lo hi rest ih =>
    rw [halves, le16s, le16_u16, ih (by simp only [List.length_cons] at h; omega)]
    rfl
  | case2 bs hne =>
    match bs, hne, h with
    | [], _, _ => rfl
    | [_], _, h => simp at h
    | a :: b :: r, hne, _ => exact absurd rfl (hne a b r)

theorem length_halves (bs : List Byte) : (halves bs).length = bs.length / 2 := by
  induction bs using halves.induct with
  | case1 lo hi rest ih => simp only [halves, List.length_cons, ih]; omega
  | case2 bs hne =>
    match bs, hne with
    | [], _ => rfl
    | [_], _ => simp [halves]
    | a :: b :: r, hne => exact absurd rfl (hne a b r)

namespace Machine

@[simp] theorem length_frame (d : List Byte) : (frame d).length = d.length + 6 := by
  simp [frame]; omega

@[simp] theorem length_universeFrame (u : Memory) : (universeFrame u).length = 518 := by
  simp [universeFrame, nchan, Memory.length_readAll]

end Machine

end Sys2Proof
end

