-- ==== Sys2Proof/Laws/State.lean ====
section
/-! SUPPORT. One lemma per field per named update of the state, so that no proof unfolds a record update. -/

namespace Sys2Proof.Machine

/-! ### `respond` -/

@[simp] theorem State.respond_u (s : State) (st : Status) (d : List Byte) : (State.respond st d s).u = s.u := rfl

@[simp] theorem State.respond_snapOn (s : State) (st : Status) (d : List Byte) : (State.respond st d s).snapOn = s.snapOn :=
  rfl

@[simp] theorem State.respond_snapOff (s : State) (st : Status) (d : List Byte) :
    (State.respond st d s).snapOff = s.snapOff :=
  rfl

@[simp] theorem State.respond_snapSafe (s : State) (st : Status) (d : List Byte) :
    (State.respond st d s).snapSafe = s.snapSafe :=
  rfl

@[simp] theorem State.respond_views (s : State) (st : Status) (d : List Byte) : (State.respond st d s).views = s.views := rfl

@[simp] theorem State.respond_tpOpen (s : State) (st : Status) (d : List Byte) : (State.respond st d s).tpOpen = s.tpOpen :=
  rfl

@[simp] theorem State.respond_now (s : State) (st : Status) (d : List Byte) : (State.respond st d s).now = s.now := rfl

@[simp] theorem State.respond_osc (s : State) (st : Status) (d : List Byte) : (State.respond st d s).osc = s.osc := rfl

@[simp] theorem State.respond_phase (s : State) (st : Status) (d : List Byte) : (State.respond st d s).phase = s.phase := rfl

@[simp] theorem State.respond_cancel (s : State) (st : Status) (d : List Byte) : (State.respond st d s).cancel = s.cancel :=
  rfl

@[simp] theorem State.respond_half (s : State) (st : Status) (d : List Byte) : (State.respond st d s).half = s.half := rfl

@[simp] theorem State.respond_dur (s : State) (st : Status) (d : List Byte) : (State.respond st d s).dur = s.dur := rfl

@[simp] theorem State.respond_t0 (s : State) (st : Status) (d : List Byte) : (State.respond st d s).t0 = s.t0 := rfl

@[simp] theorem State.respond_titer (s : State) (st : Status) (d : List Byte) : (State.respond st d s).titer = s.titer := rfl

@[simp] theorem State.respond_phaseCnt (s : State) (st : Status) (d : List Byte) :
    (State.respond st d s).phaseCnt = s.phaseCnt :=
  rfl

@[simp] theorem State.respond_eEnc (s : State) (st : Status) (d : List Byte) : (State.respond st d s).eEnc = s.eEnc := rfl

@[simp] theorem State.respond_eOor (s : State) (st : Status) (d : List Byte) : (State.respond st d s).eOor = s.eOor := rfl

@[simp] theorem State.respond_eTx (s : State) (st : Status) (d : List Byte) : (State.respond st d s).eTx = s.eTx := rfl

@[simp] theorem State.respond_eIll (s : State) (st : Status) (d : List Byte) : (State.respond st d s).eIll = s.eIll := rfl

@[simp] theorem State.respond_hung (s : State) (st : Status) (d : List Byte) : (State.respond st d s).hung = s.hung := rfl

@[simp] theorem State.respond_txLog (s : State) (st : Status) (d : List Byte) : (State.respond st d s).txLog = s.txLog := rfl

@[simp] theorem State.respond_respLog (s : State) (st : Status) (d : List Byte) :
    (State.respond st d s).respLog = s.respLog ++ [{ status := st, data := d }] :=
  rfl

@[simp] theorem State.respond_tickHz (s : State) (st : Status) (d : List Byte) : (State.respond st d s).tickHz = s.tickHz :=
  rfl

@[simp] theorem State.respond_host (s : State) (st : Status) (d : List Byte) : (State.respond st d s).host = s.host := rfl

@[simp] theorem State.respond_replies (s : State) (st : Status) (d : List Byte) :
    (State.respond st d s).replies = s.replies :=
  rfl

@[simp] theorem State.respond_drawn (s : State) (st : Status) (d : List Byte) : (State.respond st d s).drawn = s.drawn := rfl

/-! ### `tick` -/

@[simp] theorem State.tick_u (s : State) (k : Nat) : (State.tick k s).u = s.u := rfl

@[simp] theorem State.tick_snapOn (s : State) (k : Nat) : (State.tick k s).snapOn = s.snapOn := rfl

@[simp] theorem State.tick_snapOff (s : State) (k : Nat) : (State.tick k s).snapOff = s.snapOff := rfl

@[simp] theorem State.tick_snapSafe (s : State) (k : Nat) : (State.tick k s).snapSafe = s.snapSafe := rfl

@[simp] theorem State.tick_views (s : State) (k : Nat) : (State.tick k s).views = s.views := rfl

@[simp] theorem State.tick_tpOpen (s : State) (k : Nat) : (State.tick k s).tpOpen = s.tpOpen := rfl

@[simp] theorem State.tick_now (s : State) (k : Nat) : (State.tick k s).now = s.now + BitVec.ofNat 64 k := rfl

@[simp] theorem State.tick_osc (s : State) (k : Nat) : (State.tick k s).osc = s.osc := rfl

@[simp] theorem State.tick_phase (s : State) (k : Nat) : (State.tick k s).phase = s.phase := rfl

@[simp] theorem State.tick_cancel (s : State) (k : Nat) : (State.tick k s).cancel = s.cancel := rfl

@[simp] theorem State.tick_half (s : State) (k : Nat) : (State.tick k s).half = s.half := rfl

@[simp] theorem State.tick_dur (s : State) (k : Nat) : (State.tick k s).dur = s.dur := rfl

@[simp] theorem State.tick_t0 (s : State) (k : Nat) : (State.tick k s).t0 = s.t0 := rfl

@[simp] theorem State.tick_titer (s : State) (k : Nat) : (State.tick k s).titer = s.titer := rfl

@[simp] theorem State.tick_phaseCnt (s : State) (k : Nat) : (State.tick k s).phaseCnt = s.phaseCnt := rfl

@[simp] theorem State.tick_eEnc (s : State) (k : Nat) : (State.tick k s).eEnc = s.eEnc := rfl

@[simp] theorem State.tick_eOor (s : State) (k : Nat) : (State.tick k s).eOor = s.eOor := rfl

@[simp] theorem State.tick_eTx (s : State) (k : Nat) : (State.tick k s).eTx = s.eTx := rfl

@[simp] theorem State.tick_eIll (s : State) (k : Nat) : (State.tick k s).eIll = s.eIll := rfl

@[simp] theorem State.tick_hung (s : State) (k : Nat) : (State.tick k s).hung = s.hung := rfl

@[simp] theorem State.tick_txLog (s : State) (k : Nat) : (State.tick k s).txLog = s.txLog := rfl

@[simp] theorem State.tick_respLog (s : State) (k : Nat) : (State.tick k s).respLog = s.respLog := rfl

@[simp] theorem State.tick_tickHz (s : State) (k : Nat) : (State.tick k s).tickHz = s.tickHz := rfl

@[simp] theorem State.tick_host (s : State) (k : Nat) : (State.tick k s).host = s.host := rfl

@[simp] theorem State.tick_replies (s : State) (k : Nat) : (State.tick k s).replies = s.replies := rfl

@[simp] theorem State.tick_drawn (s : State) (k : Nat) : (State.tick k s).drawn = s.drawn := rfl

/-! ### `latchCancel` -/

@[simp] theorem State.latchCancel_u (s : State) (b : Bool) : (State.latchCancel b s).u = s.u := rfl

@[simp] theorem State.latchCancel_snapOn (s : State) (b : Bool) : (State.latchCancel b s).snapOn = s.snapOn := rfl

@[simp] theorem State.latchCancel_snapOff (s : State) (b : Bool) : (State.latchCancel b s).snapOff = s.snapOff := rfl

@[simp] theorem State.latchCancel_snapSafe (s : State) (b : Bool) : (State.latchCancel b s).snapSafe = s.snapSafe := rfl

@[simp] theorem State.latchCancel_views (s : State) (b : Bool) : (State.latchCancel b s).views = s.views := rfl

@[simp] theorem State.latchCancel_tpOpen (s : State) (b : Bool) : (State.latchCancel b s).tpOpen = s.tpOpen := rfl

@[simp] theorem State.latchCancel_now (s : State) (b : Bool) : (State.latchCancel b s).now = s.now := rfl

@[simp] theorem State.latchCancel_osc (s : State) (b : Bool) : (State.latchCancel b s).osc = s.osc := rfl

@[simp] theorem State.latchCancel_phase (s : State) (b : Bool) : (State.latchCancel b s).phase = s.phase := rfl

@[simp] theorem State.latchCancel_cancel (s : State) (b : Bool) :
    (State.latchCancel b s).cancel = (s.cancel || (s.osc.isRunning && b)) :=
  rfl

@[simp] theorem State.latchCancel_half (s : State) (b : Bool) : (State.latchCancel b s).half = s.half := rfl

@[simp] theorem State.latchCancel_dur (s : State) (b : Bool) : (State.latchCancel b s).dur = s.dur := rfl

@[simp] theorem State.latchCancel_t0 (s : State) (b : Bool) : (State.latchCancel b s).t0 = s.t0 := rfl

@[simp] theorem State.latchCancel_titer (s : State) (b : Bool) : (State.latchCancel b s).titer = s.titer := rfl

@[simp] theorem State.latchCancel_phaseCnt (s : State) (b : Bool) : (State.latchCancel b s).phaseCnt = s.phaseCnt := rfl

@[simp] theorem State.latchCancel_eEnc (s : State) (b : Bool) : (State.latchCancel b s).eEnc = s.eEnc := rfl

@[simp] theorem State.latchCancel_eOor (s : State) (b : Bool) : (State.latchCancel b s).eOor = s.eOor := rfl

@[simp] theorem State.latchCancel_eTx (s : State) (b : Bool) : (State.latchCancel b s).eTx = s.eTx := rfl

@[simp] theorem State.latchCancel_eIll (s : State) (b : Bool) : (State.latchCancel b s).eIll = s.eIll := rfl

@[simp] theorem State.latchCancel_hung (s : State) (b : Bool) : (State.latchCancel b s).hung = s.hung := rfl

@[simp] theorem State.latchCancel_txLog (s : State) (b : Bool) : (State.latchCancel b s).txLog = s.txLog := rfl

@[simp] theorem State.latchCancel_respLog (s : State) (b : Bool) : (State.latchCancel b s).respLog = s.respLog := rfl

@[simp] theorem State.latchCancel_tickHz (s : State) (b : Bool) : (State.latchCancel b s).tickHz = s.tickHz := rfl

@[simp] theorem State.latchCancel_host (s : State) (b : Bool) : (State.latchCancel b s).host = s.host := rfl

@[simp] theorem State.latchCancel_replies (s : State) (b : Bool) : (State.latchCancel b s).replies = s.replies := rfl

@[simp] theorem State.latchCancel_drawn (s : State) (b : Bool) : (State.latchCancel b s).drawn = s.drawn := rfl

/-! ### `elapse` -/

@[simp] theorem State.elapse_u (s : State) (k : Nat) : (State.elapse k s).u = s.u := rfl

@[simp] theorem State.elapse_snapOn (s : State) (k : Nat) : (State.elapse k s).snapOn = s.snapOn := rfl

@[simp] theorem State.elapse_snapOff (s : State) (k : Nat) : (State.elapse k s).snapOff = s.snapOff := rfl

@[simp] theorem State.elapse_snapSafe (s : State) (k : Nat) : (State.elapse k s).snapSafe = s.snapSafe := rfl

@[simp] theorem State.elapse_views (s : State) (k : Nat) : (State.elapse k s).views = s.views := rfl

@[simp] theorem State.elapse_tpOpen (s : State) (k : Nat) : (State.elapse k s).tpOpen = s.tpOpen := rfl

@[simp] theorem State.elapse_now (s : State) (k : Nat) : (State.elapse k s).now = s.now + BitVec.ofNat 64 k := rfl

@[simp] theorem State.elapse_osc (s : State) (k : Nat) : (State.elapse k s).osc = s.osc := rfl

@[simp] theorem State.elapse_phase (s : State) (k : Nat) : (State.elapse k s).phase = s.phase := rfl

@[simp] theorem State.elapse_cancel (s : State) (k : Nat) :
    (State.elapse k s).cancel = (s.cancel || (s.osc.isRunning && (hostDuring k s.host).1)) :=
  rfl

@[simp] theorem State.elapse_half (s : State) (k : Nat) : (State.elapse k s).half = s.half := rfl

@[simp] theorem State.elapse_dur (s : State) (k : Nat) : (State.elapse k s).dur = s.dur := rfl

@[simp] theorem State.elapse_t0 (s : State) (k : Nat) : (State.elapse k s).t0 = s.t0 := rfl

@[simp] theorem State.elapse_titer (s : State) (k : Nat) : (State.elapse k s).titer = s.titer := rfl

@[simp] theorem State.elapse_phaseCnt (s : State) (k : Nat) : (State.elapse k s).phaseCnt = s.phaseCnt := rfl

@[simp] theorem State.elapse_eEnc (s : State) (k : Nat) : (State.elapse k s).eEnc = s.eEnc := rfl

@[simp] theorem State.elapse_eOor (s : State) (k : Nat) : (State.elapse k s).eOor = s.eOor := rfl

@[simp] theorem State.elapse_eTx (s : State) (k : Nat) : (State.elapse k s).eTx = s.eTx := rfl

@[simp] theorem State.elapse_eIll (s : State) (k : Nat) : (State.elapse k s).eIll = s.eIll := rfl

@[simp] theorem State.elapse_hung (s : State) (k : Nat) : (State.elapse k s).hung = s.hung := rfl

@[simp] theorem State.elapse_txLog (s : State) (k : Nat) : (State.elapse k s).txLog = s.txLog := rfl

@[simp] theorem State.elapse_respLog (s : State) (k : Nat) : (State.elapse k s).respLog = s.respLog := rfl

@[simp] theorem State.elapse_tickHz (s : State) (k : Nat) : (State.elapse k s).tickHz = s.tickHz := rfl

@[simp] theorem State.elapse_host (s : State) (k : Nat) : (State.elapse k s).host = (hostDuring k s.host).2 := rfl

@[simp] theorem State.elapse_replies (s : State) (k : Nat) : (State.elapse k s).replies = s.replies := rfl

@[simp] theorem State.elapse_drawn (s : State) (k : Nat) : (State.elapse k s).drawn = s.drawn := rfl

/-! ### `endPass` -/

@[simp] theorem State.endPass_u (s : State) (t : State) : (State.endPass s t).u = t.u := rfl

@[simp] theorem State.endPass_snapOn (s : State) (t : State) : (State.endPass s t).snapOn = t.snapOn := rfl

@[simp] theorem State.endPass_snapOff (s : State) (t : State) : (State.endPass s t).snapOff = t.snapOff := rfl

@[simp] theorem State.endPass_snapSafe (s : State) (t : State) : (State.endPass s t).snapSafe = t.snapSafe := rfl

@[simp] theorem State.endPass_views (s : State) (t : State) : (State.endPass s t).views = t.views := rfl

@[simp] theorem State.endPass_tpOpen (s : State) (t : State) : (State.endPass s t).tpOpen = t.tpOpen := rfl

@[simp] theorem State.endPass_now (s : State) (t : State) : (State.endPass s t).now = t.now := rfl

@[simp] theorem State.endPass_osc (s : State) (t : State) : (State.endPass s t).osc = t.osc := rfl

@[simp] theorem State.endPass_phase (s : State) (t : State) : (State.endPass s t).phase = t.phase := rfl

@[simp] theorem State.endPass_cancel (s : State) (t : State) : (State.endPass s t).cancel = t.cancel := rfl

@[simp] theorem State.endPass_half (s : State) (t : State) : (State.endPass s t).half = t.half := rfl

@[simp] theorem State.endPass_dur (s : State) (t : State) : (State.endPass s t).dur = t.dur := rfl

@[simp] theorem State.endPass_t0 (s : State) (t : State) : (State.endPass s t).t0 = t.t0 := rfl

@[simp] theorem State.endPass_titer (s : State) (t : State) : (State.endPass s t).titer = t.titer := rfl

@[simp] theorem State.endPass_phaseCnt (s : State) (t : State) : (State.endPass s t).phaseCnt = t.phaseCnt := rfl

@[simp] theorem State.endPass_eEnc (s : State) (t : State) : (State.endPass s t).eEnc = t.eEnc := rfl

@[simp] theorem State.endPass_eOor (s : State) (t : State) : (State.endPass s t).eOor = t.eOor := rfl

@[simp] theorem State.endPass_eTx (s : State) (t : State) : (State.endPass s t).eTx = t.eTx := rfl

@[simp] theorem State.endPass_eIll (s : State) (t : State) : (State.endPass s t).eIll = t.eIll := rfl

@[simp] theorem State.endPass_hung (s : State) (t : State) : (State.endPass s t).hung = t.hung := rfl

@[simp] theorem State.endPass_txLog (s : State) (t : State) : (State.endPass s t).txLog = t.txLog := rfl

@[simp] theorem State.endPass_respLog (s : State) (t : State) : (State.endPass s t).respLog = t.respLog := rfl

@[simp] theorem State.endPass_tickHz (s : State) (t : State) : (State.endPass s t).tickHz = t.tickHz := rfl

@[simp] theorem State.endPass_host (s : State) (t : State) :
    (State.endPass s t).host = if passFirst s.host && !t.hung then t.host.tail else t.host :=
  rfl

@[simp] theorem State.endPass_replies (s : State) (t : State) : (State.endPass s t).replies = t.replies := rfl

@[simp] theorem State.endPass_drawn (s : State) (t : State) : (State.endPass s t).drawn = t.drawn := rfl

/-! ### `logTx` -/

@[simp] theorem State.logTx_u (s : State) (e : TxEvent) : (State.logTx e s).u = s.u := rfl

@[simp] theorem State.logTx_snapOn (s : State) (e : TxEvent) : (State.logTx e s).snapOn = s.snapOn := rfl

@[simp] theorem State.logTx_snapOff (s : State) (e : TxEvent) : (State.logTx e s).snapOff = s.snapOff := rfl

@[simp] theorem State.logTx_snapSafe (s : State) (e : TxEvent) : (State.logTx e s).snapSafe = s.snapSafe := rfl

@[simp] theorem State.logTx_views (s : State) (e : TxEvent) : (State.logTx e s).views = s.views := rfl

@[simp] theorem State.logTx_tpOpen (s : State) (e : TxEvent) : (State.logTx e s).tpOpen = s.tpOpen := rfl

@[simp] theorem State.logTx_now (s : State) (e : TxEvent) : (State.logTx e s).now = s.now := rfl

@[simp] theorem State.logTx_osc (s : State) (e : TxEvent) : (State.logTx e s).osc = s.osc := rfl

@[simp] theorem State.logTx_phase (s : State) (e : TxEvent) : (State.logTx e s).phase = s.phase := rfl

@[simp] theorem State.logTx_cancel (s : State) (e : TxEvent) : (State.logTx e s).cancel = s.cancel := rfl

@[simp] theorem State.logTx_half (s : State) (e : TxEvent) : (State.logTx e s).half = s.half := rfl

@[simp] theorem State.logTx_dur (s : State) (e : TxEvent) : (State.logTx e s).dur = s.dur := rfl

@[simp] theorem State.logTx_t0 (s : State) (e : TxEvent) : (State.logTx e s).t0 = s.t0 := rfl

@[simp] theorem State.logTx_titer (s : State) (e : TxEvent) : (State.logTx e s).titer = s.titer := rfl

@[simp] theorem State.logTx_phaseCnt (s : State) (e : TxEvent) : (State.logTx e s).phaseCnt = s.phaseCnt := rfl

@[simp] theorem State.logTx_eEnc (s : State) (e : TxEvent) : (State.logTx e s).eEnc = s.eEnc := rfl

@[simp] theorem State.logTx_eOor (s : State) (e : TxEvent) : (State.logTx e s).eOor = s.eOor := rfl

@[simp] theorem State.logTx_eTx (s : State) (e : TxEvent) : (State.logTx e s).eTx = s.eTx := rfl

@[simp] theorem State.logTx_eIll (s : State) (e : TxEvent) : (State.logTx e s).eIll = s.eIll := rfl

@[simp] theorem State.logTx_hung (s : State) (e : TxEvent) : (State.logTx e s).hung = s.hung := rfl

@[simp] theorem State.logTx_txLog (s : State) (e : TxEvent) : (State.logTx e s).txLog = s.txLog ++ [e] := rfl

@[simp] theorem State.logTx_respLog (s : State) (e : TxEvent) : (State.logTx e s).respLog = s.respLog := rfl

@[simp] theorem State.logTx_tickHz (s : State) (e : TxEvent) : (State.logTx e s).tickHz = s.tickHz := rfl

@[simp] theorem State.logTx_host (s : State) (e : TxEvent) : (State.logTx e s).host = s.host := rfl

@[simp] theorem State.logTx_replies (s : State) (e : TxEvent) : (State.logTx e s).replies = s.replies := rfl

@[simp] theorem State.logTx_drawn (s : State) (e : TxEvent) : (State.logTx e s).drawn = s.drawn := rfl

/-! ### `loadPhase` -/

@[simp] theorem State.loadPhase_u (s : State) : (State.loadPhase s).u = s.phaseSnap := rfl

@[simp] theorem State.loadPhase_snapOn (s : State) : (State.loadPhase s).snapOn = s.snapOn := rfl

@[simp] theorem State.loadPhase_snapOff (s : State) : (State.loadPhase s).snapOff = s.snapOff := rfl

@[simp] theorem State.loadPhase_snapSafe (s : State) : (State.loadPhase s).snapSafe = s.snapSafe := rfl

@[simp] theorem State.loadPhase_views (s : State) : (State.loadPhase s).views = s.views := rfl

@[simp] theorem State.loadPhase_tpOpen (s : State) : (State.loadPhase s).tpOpen = s.tpOpen := rfl

@[simp] theorem State.loadPhase_now (s : State) : (State.loadPhase s).now = s.now := rfl

@[simp] theorem State.loadPhase_osc (s : State) : (State.loadPhase s).osc = s.osc := rfl

@[simp] theorem State.loadPhase_phase (s : State) : (State.loadPhase s).phase = s.phase := rfl

@[simp] theorem State.loadPhase_cancel (s : State) : (State.loadPhase s).cancel = s.cancel := rfl

@[simp] theorem State.loadPhase_half (s : State) : (State.loadPhase s).half = s.half := rfl

@[simp] theorem State.loadPhase_dur (s : State) : (State.loadPhase s).dur = s.dur := rfl

@[simp] theorem State.loadPhase_t0 (s : State) : (State.loadPhase s).t0 = s.t0 := rfl

@[simp] theorem State.loadPhase_titer (s : State) : (State.loadPhase s).titer = s.now := rfl

@[simp] theorem State.loadPhase_phaseCnt (s : State) : (State.loadPhase s).phaseCnt = s.phaseCnt := rfl

@[simp] theorem State.loadPhase_eEnc (s : State) : (State.loadPhase s).eEnc = s.eEnc := rfl

@[simp] theorem State.loadPhase_eOor (s : State) : (State.loadPhase s).eOor = s.eOor := rfl

@[simp] theorem State.loadPhase_eTx (s : State) : (State.loadPhase s).eTx = s.eTx := rfl

@[simp] theorem State.loadPhase_eIll (s : State) : (State.loadPhase s).eIll = s.eIll := rfl

@[simp] theorem State.loadPhase_hung (s : State) : (State.loadPhase s).hung = s.hung := rfl

@[simp] theorem State.loadPhase_txLog (s : State) : (State.loadPhase s).txLog = s.txLog := rfl

@[simp] theorem State.loadPhase_respLog (s : State) : (State.loadPhase s).respLog = s.respLog := rfl

@[simp] theorem State.loadPhase_tickHz (s : State) : (State.loadPhase s).tickHz = s.tickHz := rfl

@[simp] theorem State.loadPhase_host (s : State) : (State.loadPhase s).host = s.host := rfl

@[simp] theorem State.loadPhase_replies (s : State) : (State.loadPhase s).replies = s.replies := rfl

@[simp] theorem State.loadPhase_drawn (s : State) : (State.loadPhase s).drawn = s.drawn := rfl

/-! ### `loadSafe` -/

@[simp] theorem State.loadSafe_u (s : State) : (State.loadSafe s).u = s.snapSafe := rfl

@[simp] theorem State.loadSafe_snapOn (s : State) : (State.loadSafe s).snapOn = s.snapOn := rfl

@[simp] theorem State.loadSafe_snapOff (s : State) : (State.loadSafe s).snapOff = s.snapOff := rfl

@[simp] theorem State.loadSafe_snapSafe (s : State) : (State.loadSafe s).snapSafe = s.snapSafe := rfl

@[simp] theorem State.loadSafe_views (s : State) : (State.loadSafe s).views = s.views := rfl

@[simp] theorem State.loadSafe_tpOpen (s : State) : (State.loadSafe s).tpOpen = s.tpOpen := rfl

@[simp] theorem State.loadSafe_now (s : State) : (State.loadSafe s).now = s.now := rfl

@[simp] theorem State.loadSafe_osc (s : State) : (State.loadSafe s).osc = s.osc := rfl

@[simp] theorem State.loadSafe_phase (s : State) : (State.loadSafe s).phase = s.phase := rfl

@[simp] theorem State.loadSafe_cancel (s : State) : (State.loadSafe s).cancel = s.cancel := rfl

@[simp] theorem State.loadSafe_half (s : State) : (State.loadSafe s).half = s.half := rfl

@[simp] theorem State.loadSafe_dur (s : State) : (State.loadSafe s).dur = s.dur := rfl

@[simp] theorem State.loadSafe_t0 (s : State) : (State.loadSafe s).t0 = s.t0 := rfl

@[simp] theorem State.loadSafe_titer (s : State) : (State.loadSafe s).titer = s.titer := rfl

@[simp] theorem State.loadSafe_phaseCnt (s : State) : (State.loadSafe s).phaseCnt = s.phaseCnt := rfl

@[simp] theorem State.loadSafe_eEnc (s : State) : (State.loadSafe s).eEnc = s.eEnc := rfl

@[simp] theorem State.loadSafe_eOor (s : State) : (State.loadSafe s).eOor = s.eOor := rfl

@[simp] theorem State.loadSafe_eTx (s : State) : (State.loadSafe s).eTx = s.eTx := rfl

@[simp] theorem State.loadSafe_eIll (s : State) : (State.loadSafe s).eIll = s.eIll := rfl

@[simp] theorem State.loadSafe_hung (s : State) : (State.loadSafe s).hung = s.hung := rfl

@[simp] theorem State.loadSafe_txLog (s : State) : (State.loadSafe s).txLog = s.txLog := rfl

@[simp] theorem State.loadSafe_respLog (s : State) : (State.loadSafe s).respLog = s.respLog := rfl

@[simp] theorem State.loadSafe_tickHz (s : State) : (State.loadSafe s).tickHz = s.tickHz := rfl

@[simp] theorem State.loadSafe_host (s : State) : (State.loadSafe s).host = s.host := rfl

@[simp] theorem State.loadSafe_replies (s : State) : (State.loadSafe s).replies = s.replies := rfl

@[simp] theorem State.loadSafe_drawn (s : State) : (State.loadSafe s).drawn = s.drawn := rfl

/-! ### `flipStep` -/

@[simp] theorem State.flipStep_u (s : State) : (State.flipStep s).u = s.u := rfl

@[simp] theorem State.flipStep_snapOn (s : State) : (State.flipStep s).snapOn = s.snapOn := rfl

@[simp] theorem State.flipStep_snapOff (s : State) : (State.flipStep s).snapOff = s.snapOff := rfl

@[simp] theorem State.flipStep_snapSafe (s : State) : (State.flipStep s).snapSafe = s.snapSafe := rfl

@[simp] theorem State.flipStep_views (s : State) : (State.flipStep s).views = s.views := rfl

@[simp] theorem State.flipStep_tpOpen (s : State) : (State.flipStep s).tpOpen = s.tpOpen := rfl

@[simp] theorem State.flipStep_now (s : State) : (State.flipStep s).now = s.now := rfl

@[simp] theorem State.flipStep_osc (s : State) : (State.flipStep s).osc = .running .top := rfl

@[simp] theorem State.flipStep_phase (s : State) : (State.flipStep s).phase = !s.phase := rfl

@[simp] theorem State.flipStep_cancel (s : State) : (State.flipStep s).cancel = s.cancel := rfl

@[simp] theorem State.flipStep_half (s : State) : (State.flipStep s).half = s.half := rfl

@[simp] theorem State.flipStep_dur (s : State) : (State.flipStep s).dur = s.dur := rfl

@[simp] theorem State.flipStep_t0 (s : State) : (State.flipStep s).t0 = s.t0 := rfl

@[simp] theorem State.flipStep_titer (s : State) : (State.flipStep s).titer = s.titer := rfl

@[simp] theorem State.flipStep_phaseCnt (s : State) : (State.flipStep s).phaseCnt = s.phaseCnt := rfl

@[simp] theorem State.flipStep_eEnc (s : State) : (State.flipStep s).eEnc = s.eEnc := rfl

@[simp] theorem State.flipStep_eOor (s : State) : (State.flipStep s).eOor = s.eOor := rfl

@[simp] theorem State.flipStep_eTx (s : State) : (State.flipStep s).eTx = s.eTx := rfl

@[simp] theorem State.flipStep_eIll (s : State) : (State.flipStep s).eIll = s.eIll := rfl

@[simp] theorem State.flipStep_hung (s : State) : (State.flipStep s).hung = s.hung := rfl

@[simp] theorem State.flipStep_txLog (s : State) : (State.flipStep s).txLog = s.txLog := rfl

@[simp] theorem State.flipStep_respLog (s : State) : (State.flipStep s).respLog = s.respLog := rfl

@[simp] theorem State.flipStep_tickHz (s : State) : (State.flipStep s).tickHz = s.tickHz := rfl

@[simp] theorem State.flipStep_host (s : State) : (State.flipStep s).host = s.host := rfl

@[simp] theorem State.flipStep_replies (s : State) : (State.flipStep s).replies = s.replies := rfl

@[simp] theorem State.flipStep_drawn (s : State) : (State.flipStep s).drawn = s.drawn := rfl

/-! ### `dropReply` -/

@[simp] theorem State.dropReply_u (s : State) : (State.dropReply s).u = s.u := by
  unfold State.dropReply
  split <;> simp_all

@[simp] theorem State.dropReply_snapOn (s : State) : (State.dropReply s).snapOn = s.snapOn := by
  unfold State.dropReply
  split <;> simp_all

@[simp] theorem State.dropReply_snapOff (s : State) : (State.dropReply s).snapOff = s.snapOff := by
  unfold State.dropReply
  split <;> simp_all

@[simp] theorem State.dropReply_snapSafe (s : State) : (State.dropReply s).snapSafe = s.snapSafe := by
  unfold State.dropReply
  split <;> simp_all

@[simp] theorem State.dropReply_views (s : State) : (State.dropReply s).views = s.views := by
  unfold State.dropReply
  split <;> simp_all

@[simp] theorem State.dropReply_tpOpen (s : State) : (State.dropReply s).tpOpen = s.tpOpen := by
  unfold State.dropReply
  split <;> simp_all

@[simp] theorem State.dropReply_now (s : State) : (State.dropReply s).now = s.now := by
  unfold State.dropReply
  split <;> simp_all

@[simp] theorem State.dropReply_osc (s : State) : (State.dropReply s).osc = s.osc := by
  unfold State.dropReply
  split <;> simp_all

@[simp] theorem State.dropReply_phase (s : State) : (State.dropReply s).phase = s.phase := by
  unfold State.dropReply
  split <;> simp_all

@[simp] theorem State.dropReply_cancel (s : State) : (State.dropReply s).cancel = s.cancel := by
  unfold State.dropReply
  split <;> simp_all

@[simp] theorem State.dropReply_half (s : State) : (State.dropReply s).half = s.half := by
  unfold State.dropReply
  split <;> simp_all

@[simp] theorem State.dropReply_dur (s : State) : (State.dropReply s).dur = s.dur := by
  unfold State.dropReply
  split <;> simp_all

@[simp] theorem State.dropReply_t0 (s : State) : (State.dropReply s).t0 = s.t0 := by
  unfold State.dropReply
  split <;> simp_all

@[simp] theorem State.dropReply_titer (s : State) : (State.dropReply s).titer = s.titer := by
  unfold State.dropReply
  split <;> simp_all

@[simp] theorem State.dropReply_phaseCnt (s : State) : (State.dropReply s).phaseCnt = s.phaseCnt := by
  unfold State.dropReply
  split <;> simp_all

@[simp] theorem State.dropReply_eEnc (s : State) : (State.dropReply s).eEnc = s.eEnc := by
  unfold State.dropReply
  split <;> simp_all

@[simp] theorem State.dropReply_eOor (s : State) : (State.dropReply s).eOor = s.eOor := by
  unfold State.dropReply
  split <;> simp_all

@[simp] theorem State.dropReply_eTx (s : State) : (State.dropReply s).eTx = s.eTx := by
  unfold State.dropReply
  split <;> simp_all

@[simp] theorem State.dropReply_eIll (s : State) : (State.dropReply s).eIll = s.eIll := by
  unfold State.dropReply
  split <;> simp_all

@[simp] theorem State.dropReply_hung (s : State) : (State.dropReply s).hung = s.hung := by
  unfold State.dropReply
  split <;> simp_all

@[simp] theorem State.dropReply_txLog (s : State) : (State.dropReply s).txLog = s.txLog := by
  unfold State.dropReply
  split <;> simp_all

@[simp] theorem State.dropReply_respLog (s : State) : (State.dropReply s).respLog = s.respLog := by
  unfold State.dropReply
  split <;> simp_all

@[simp] theorem State.dropReply_tickHz (s : State) : (State.dropReply s).tickHz = s.tickHz := by
  unfold State.dropReply
  split <;> simp_all

@[simp] theorem State.dropReply_host (s : State) : (State.dropReply s).host = s.host := by
  unfold State.dropReply
  split <;> simp_all

@[simp] theorem State.dropReply_replies (s : State) : (State.dropReply s).replies = s.replies.tail := by
  unfold State.dropReply
  split <;> simp_all

@[simp] theorem State.dropReply_drawn (s : State) :
    (State.dropReply s).drawn = if s.replies = [] then s.drawn + 1 else s.drawn := by
  unfold State.dropReply
  split <;> simp_all

/-! ### `setSticky` -/

@[simp] theorem State.setSticky_u (s : State) (e : Status) : (State.setSticky e s).u = s.u := by
  cases e <;> rfl

@[simp] theorem State.setSticky_snapOn (s : State) (e : Status) : (State.setSticky e s).snapOn = s.snapOn := by
  cases e <;> rfl

@[simp] theorem State.setSticky_snapOff (s : State) (e : Status) : (State.setSticky e s).snapOff = s.snapOff := by
  cases e <;> rfl

@[simp] theorem State.setSticky_snapSafe (s : State) (e : Status) : (State.setSticky e s).snapSafe = s.snapSafe := by
  cases e <;> rfl

@[simp] theorem State.setSticky_views (s : State) (e : Status) : (State.setSticky e s).views = s.views := by
  cases e <;> rfl

@[simp] theorem State.setSticky_tpOpen (s : State) (e : Status) : (State.setSticky e s).tpOpen = s.tpOpen := by
  cases e <;> rfl

@[simp] theorem State.setSticky_now (s : State) (e : Status) : (State.setSticky e s).now = s.now := by
  cases e <;> rfl

@[simp] theorem State.setSticky_osc (s : State) (e : Status) : (State.setSticky e s).osc = s.osc := by
  cases e <;> rfl

@[simp] theorem State.setSticky_phase (s : State) (e : Status) : (State.setSticky e s).phase = s.phase := by
  cases e <;> rfl

@[simp] theorem State.setSticky_cancel (s : State) (e : Status) : (State.setSticky e s).cancel = s.cancel := by
  cases e <;> rfl

@[simp] theorem State.setSticky_half (s : State) (e : Status) : (State.setSticky e s).half = s.half := by
  cases e <;> rfl

@[simp] theorem State.setSticky_dur (s : State) (e : Status) : (State.setSticky e s).dur = s.dur := by
  cases e <;> rfl

@[simp] theorem State.setSticky_t0 (s : State) (e : Status) : (State.setSticky e s).t0 = s.t0 := by
  cases e <;> rfl

@[simp] theorem State.setSticky_titer (s : State) (e : Status) : (State.setSticky e s).titer = s.titer := by
  cases e <;> rfl

@[simp] theorem State.setSticky_phaseCnt (s : State) (e : Status) : (State.setSticky e s).phaseCnt = s.phaseCnt := by
  cases e <;> rfl

@[simp] theorem State.setSticky_eEnc (s : State) (e : Status) :
    (State.setSticky e s).eEnc = (s.eEnc || decide (e = .encodingError)) := by
  cases e <;> simp [State.setSticky]

@[simp] theorem State.setSticky_eOor (s : State) (e : Status) :
    (State.setSticky e s).eOor = (s.eOor || decide (e = .outOfRangeError)) := by
  cases e <;> simp [State.setSticky]

@[simp] theorem State.setSticky_eTx (s : State) (e : Status) :
    (State.setSticky e s).eTx = (s.eTx || decide (e = .transmitError)) := by
  cases e <;> simp [State.setSticky]

@[simp] theorem State.setSticky_eIll (s : State) (e : Status) :
    (State.setSticky e s).eIll = (s.eIll || decide (e = .illegalCommand)) := by
  cases e <;> simp [State.setSticky]

@[simp] theorem State.setSticky_hung (s : State) (e : Status) : (State.setSticky e s).hung = s.hung := by
  cases e <;> rfl

@[simp] theorem State.setSticky_txLog (s : State) (e : Status) : (State.setSticky e s).txLog = s.txLog := by
  cases e <;> rfl

@[simp] theorem State.setSticky_respLog (s : State) (e : Status) : (State.setSticky e s).respLog = s.respLog := by
  cases e <;> rfl

@[simp] theorem State.setSticky_tickHz (s : State) (e : Status) : (State.setSticky e s).tickHz = s.tickHz := by
  cases e <;> rfl

@[simp] theorem State.setSticky_host (s : State) (e : Status) : (State.setSticky e s).host = s.host := by
  cases e <;> rfl

@[simp] theorem State.setSticky_replies (s : State) (e : Status) : (State.setSticky e s).replies = s.replies := by
  cases e <;> rfl

@[simp] theorem State.setSticky_drawn (s : State) (e : Status) : (State.setSticky e s).drawn = s.drawn := by
  cases e <;> rfl

end Sys2Proof.Machine
end

