-- ==== Sys2Proof/Laws/Ops.lean ====
section
/-! SUPPORT. One lemma per shared operation that says everything it can do, for later proofs to cite. -/

namespace Sys2Proof.Machine

/-! ### Checks and errors -/

theorem chanOk_iff (c : Half) : chanOk c = true ↔ 1 ≤ c.toNat ∧ c.toNat ≤ 512 := by
  simp only [chanOk, Bool.and_eq_true, decide_eq_true_iff]
  exact Iff.rfl

theorem footprintOk_iff (b : Half) : footprintOk b = true ↔ 1 ≤ b.toNat ∧ b.toNat ≤ 507 := by
  simp only [footprintOk, Bool.and_eq_true, decide_eq_true_iff]
  simp only [nchan]
  omega

theorem rangeOk_iff (c : Half) (n : Nat) :
    rangeOk c n = true ↔ 1 ≤ c.toNat ∧ c.toNat ≤ 512 ∧ c.toNat + n ≤ 513 := by
  simp only [rangeOk, chanOk, Bool.and_eq_true, decide_eq_true_iff]
  simp only [nchan]
  omega

theorem viewOk_iff (c n : Half) :
    viewOk c n = true ↔ 1 ≤ c.toNat ∧ c.toNat ≤ 512 ∧ c.toNat + n.toNat ≤ 513 := by
  simp only [viewOk, chanOk, Bool.and_eq_true, decide_eq_true_iff]
  simp only [nchan]
  omega

theorem strobeOk_iff (f : Word) (p : Byte) : strobeOk f p = true ↔ f.toNat ≠ 0 ∧ p.toNat ≤ 1 := by
  have : f = 0#32 ↔ f.toNat = 0 := by
    constructor
    · rintro rfl; rfl
    · intro h; exact BitVec.eq_of_toNat_eq h
  simp [strobeOk, this]

theorem viewAccessOk_iff (s : State) (v : Byte) (off : Half) :
    s.viewAccessOk v off = true ↔
      ∃ w, s.views[v.toNat]? = some w ∧ w.valid = true ∧ off.toNat < w.count.toNat ∧ s.slot v = w := by
  unfold State.viewAccessOk State.slot State.nview
  rw [List.getD_eq_getElem?_getD]
  by_cases h : v.toNat < s.views.length
  · simp [h]
  · simp [h]

theorem State.raiseOor_eq (s : State) : s.raiseOor = s.afterOor := rfl

theorem State.guarded_true {ok : Bool} (h : ok = true) (act : State → State) (s : State) :
    s.guarded ok act = act s := by simp [State.guarded, h]

theorem State.guarded_false {ok : Bool} (h : ok = false) (act : State → State) (s : State) :
    s.guarded ok act = s.afterOor := by simp [State.guarded, h, State.raiseOor_eq]

/-! ### Time and HOST -/

@[simp] theorem hostDuring_nil (k : Nat) : hostDuring k [] = (false, []) := by
  cases k <;> rfl

@[simp] theorem hostDuring_packet (k : Nat) (bs : List Byte) (hs : List HostMove) :
    hostDuring k (.packet bs :: hs) = (false, .packet bs :: hs) := by
  simp [hostDuring]

@[simp] theorem hostDuring_pass (k : Nat) (hs : List HostMove) :
    hostDuring k (.pass :: hs) = (false, .pass :: hs) := by
  simp [hostDuring]

/-- The moment of a cancel request within `k` ticks: at the last of them it still counts. -/
theorem hostDuring_wait_cancel (k n : Nat) (hs : List HostMove) :
    (hostDuring k (.wait n :: .cancel :: hs)).1 = decide (n ≤ k) := by
  by_cases h : n ≤ k <;> simp [hostDuring, h]

/-- With no pass of HOST first, none ends. -/
theorem State.endPass_of_no_pass {s : State} (h : passFirst s.host = false) (t : State) : s.endPass t = t := by
  unfold State.endPass
  rw [h]
  rfl

/-- With no move of HOST to come no pass ends. -/
theorem State.endPass_of_host_nil {s : State} (h : s.host = []) (t : State) : s.endPass t = t :=
  State.endPass_of_no_pass (by rw [h]; rfl) t

/-- Inside a write that never returns no pass ends. -/
theorem State.endPass_of_hung (s : State) {t : State} (h : t.hung = true) : s.endPass t = t := by
  have e : (passFirst s.host && !t.hung) = false := by rw [h, Bool.not_true, Bool.and_false]
  unfold State.endPass
  rw [e]
  rfl

/-- While HOST passes, time passing takes no move of HOST and latches nothing. -/
theorem State.elapse_of_pass {s : State} {hs : List HostMove} (h : s.host = .pass :: hs) (k : Nat) :
    s.elapse k = s.tick k := by
  unfold State.elapse
  rw [h, hostDuring_pass]
  simp [State.latchCancel, State.tick, h]

/-- With no move of HOST to come, time passing only counts. -/
theorem State.elapse_of_host_nil {s : State} (h : s.host = []) (k : Nat) : s.elapse k = s.tick k := by
  unfold State.elapse
  rw [h, hostDuring_nil]
  simp [State.latchCancel, State.tick, h]

/-! ### The transport -/

theorem TxResult.ofAnswer_eq (a : TxAnswer) :
    TxResult.ofAnswer a = if a = .ok 518 then .success else .fail (failCause a) := by
  cases a with
  | ok k => by_cases h : k = 518 <;> simp [TxResult.ofAnswer, maxFrame, failCause, h]
  | err => simp [TxResult.ofAnswer, failCause]

theorem failCause_byte {a : TxAnswer} : (failCause a).byte = if a = .err then 1#8 else 2#8 := by
  cases a <;> rfl

theorem State.transmitCore_closed {s : State} (h : s.tpOpen = false) : s.transmitCore = (.fail .closed, s) := by
  simp [State.transmitCore, h]

theorem State.transmitCore_answered {s : State} {a : TxAnswer} {d : Nat} (h : s.tpOpen = true)
    (hr : s.reply = .answered a d) :
    s.transmitCore =
      (TxResult.ofAnswer a, (s.dropReply.elapse d).logTx (.write (universeFrame s.u) a)) := by
  simp [State.transmitCore, h, hr]

theorem State.transmitCore_never {s : State} (h : s.tpOpen = true) (hr : s.reply = .never) :
    s.transmitCore = (.never, { s.dropReply with hung := true }) := by
  simp [State.transmitCore, h, hr]

theorem State.dropReply_eq (s : State) :
    s.dropReply =
      { s with replies := s.replies.tail, drawn := if s.replies = [] then s.drawn + 1 else s.drawn } := by
  unfold State.dropReply
  rcases s with ⟨⟩
  split <;> simp_all

/-- The state after an answered write: the ticks passed, the log entry, HOST's moves in that time, the reply used up. -/
theorem State.afterWrite_eq (s : State) (d : Nat) (e : TxEvent) :
    (s.dropReply.elapse d).logTx e =
      { s with
        now := s.now + BitVec.ofNat 64 d
        txLog := s.txLog ++ [e]
        cancel := s.cancel || (s.osc.isRunning && (hostDuring d s.host).1)
        host := (hostDuring d s.host).2
        replies := s.replies.tail
        drawn := if s.replies = [] then s.drawn + 1 else s.drawn } := by
  rw [State.dropReply_eq]
  rfl

/-- The same in the terms of the statements. -/
theorem State.afterWrite_eq_wrote (s : State) (d : Nat) (a : TxAnswer) :
    (s.dropReply.elapse d).logTx (.write (universeFrame s.u) a) = s.wrote s.u a d :=
  State.afterWrite_eq s d _

/-- An unanswered write in the terms of the statements. -/
theorem State.transmitCore_unanswered {s : State} (h : s.tpOpen = true) (hr : s.reply = .never) :
    s.transmitCore = (.never, s.unanswered) := by
  rw [State.transmitCore_never h hr, State.dropReply_eq]
  rfl

/-- Everything `transmit_core` can do (41_universe_buffer.md R147). -/
theorem State.transmitCore_cases (s : State) :
    (s.tpOpen = false ∧ s.transmitCore = (.fail .closed, s)) ∨
    (s.tpOpen = true ∧ ∃ a d, s.reply = .answered a d ∧ s.transmitCore =
      (TxResult.ofAnswer a, (s.dropReply.elapse d).logTx (.write (universeFrame s.u) a))) ∨
    (s.tpOpen = true ∧ s.reply = .never ∧ s.transmitCore = (.never, { s.dropReply with hung := true })) := by
  cases h : s.tpOpen with
  | false => exact .inl ⟨rfl, State.transmitCore_closed h⟩
  | true =>
    cases hr : s.reply with
    | answered a d => exact .inr (.inl ⟨rfl, a, d, rfl, State.transmitCore_answered h hr⟩)
    | never => exact .inr (.inr ⟨rfl, rfl, State.transmitCore_never h hr⟩)

/-! A transmission changes none of these fields. -/

@[simp] theorem State.transmitCore_u (s : State) : s.transmitCore.2.u = s.u := by
  rcases s.transmitCore_cases with ⟨-, h⟩ | ⟨-, a, d, -, h⟩ | ⟨-, -, h⟩ <;> rw [h] <;> simp

@[simp] theorem State.transmitCore_snapOn (s : State) : s.transmitCore.2.snapOn = s.snapOn := by
  rcases s.transmitCore_cases with ⟨-, h⟩ | ⟨-, a, d, -, h⟩ | ⟨-, -, h⟩ <;> rw [h] <;> simp

@[simp] theorem State.transmitCore_snapOff (s : State) : s.transmitCore.2.snapOff = s.snapOff := by
  rcases s.transmitCore_cases with ⟨-, h⟩ | ⟨-, a, d, -, h⟩ | ⟨-, -, h⟩ <;> rw [h] <;> simp

@[simp] theorem State.transmitCore_snapSafe (s : State) : s.transmitCore.2.snapSafe = s.snapSafe := by
  rcases s.transmitCore_cases with ⟨-, h⟩ | ⟨-, a, d, -, h⟩ | ⟨-, -, h⟩ <;> rw [h] <;> simp

@[simp] theorem State.transmitCore_views (s : State) : s.transmitCore.2.views = s.views := by
  rcases s.transmitCore_cases with ⟨-, h⟩ | ⟨-, a, d, -, h⟩ | ⟨-, -, h⟩ <;> rw [h] <;> simp

@[simp] theorem State.transmitCore_tpOpen (s : State) : s.transmitCore.2.tpOpen = s.tpOpen := by
  rcases s.transmitCore_cases with ⟨-, h⟩ | ⟨-, a, d, -, h⟩ | ⟨-, -, h⟩ <;> rw [h] <;> simp

@[simp] theorem State.transmitCore_osc (s : State) : s.transmitCore.2.osc = s.osc := by
  rcases s.transmitCore_cases with ⟨-, h⟩ | ⟨-, a, d, -, h⟩ | ⟨-, -, h⟩ <;> rw [h] <;> simp

@[simp] theorem State.transmitCore_phase (s : State) : s.transmitCore.2.phase = s.phase := by
  rcases s.transmitCore_cases with ⟨-, h⟩ | ⟨-, a, d, -, h⟩ | ⟨-, -, h⟩ <;> rw [h] <;> simp

@[simp] theorem State.transmitCore_half (s : State) : s.transmitCore.2.half = s.half := by
  rcases s.transmitCore_cases with ⟨-, h⟩ | ⟨-, a, d, -, h⟩ | ⟨-, -, h⟩ <;> rw [h] <;> simp

@[simp] theorem State.transmitCore_dur (s : State) : s.transmitCore.2.dur = s.dur := by
  rcases s.transmitCore_cases with ⟨-, h⟩ | ⟨-, a, d, -, h⟩ | ⟨-, -, h⟩ <;> rw [h] <;> simp

@[simp] theorem State.transmitCore_t0 (s : State) : s.transmitCore.2.t0 = s.t0 := by
  rcases s.transmitCore_cases with ⟨-, h⟩ | ⟨-, a, d, -, h⟩ | ⟨-, -, h⟩ <;> rw [h] <;> simp

@[simp] theorem State.transmitCore_titer (s : State) : s.transmitCore.2.titer = s.titer := by
  rcases s.transmitCore_cases with ⟨-, h⟩ | ⟨-, a, d, -, h⟩ | ⟨-, -, h⟩ <;> rw [h] <;> simp

@[simp] theorem State.transmitCore_phaseCnt (s : State) : s.transmitCore.2.phaseCnt = s.phaseCnt := by
  rcases s.transmitCore_cases with ⟨-, h⟩ | ⟨-, a, d, -, h⟩ | ⟨-, -, h⟩ <;> rw [h] <;> simp

@[simp] theorem State.transmitCore_eEnc (s : State) : s.transmitCore.2.eEnc = s.eEnc := by
  rcases s.transmitCore_cases with ⟨-, h⟩ | ⟨-, a, d, -, h⟩ | ⟨-, -, h⟩ <;> rw [h] <;> simp

@[simp] theorem State.transmitCore_eOor (s : State) : s.transmitCore.2.eOor = s.eOor := by
  rcases s.transmitCore_cases with ⟨-, h⟩ | ⟨-, a, d, -, h⟩ | ⟨-, -, h⟩ <;> rw [h] <;> simp

@[simp] theorem State.transmitCore_eTx (s : State) : s.transmitCore.2.eTx = s.eTx := by
  rcases s.transmitCore_cases with ⟨-, h⟩ | ⟨-, a, d, -, h⟩ | ⟨-, -, h⟩ <;> rw [h] <;> simp

@[simp] theorem State.transmitCore_eIll (s : State) : s.transmitCore.2.eIll = s.eIll := by
  rcases s.transmitCore_cases with ⟨-, h⟩ | ⟨-, a, d, -, h⟩ | ⟨-, -, h⟩ <;> rw [h] <;> simp

@[simp] theorem State.transmitCore_respLog (s : State) : s.transmitCore.2.respLog = s.respLog := by
  rcases s.transmitCore_cases with ⟨-, h⟩ | ⟨-, a, d, -, h⟩ | ⟨-, -, h⟩ <;> rw [h] <;> simp

@[simp] theorem State.transmitCore_tickHz (s : State) : s.transmitCore.2.tickHz = s.tickHz := by
  rcases s.transmitCore_cases with ⟨-, h⟩ | ⟨-, a, d, -, h⟩ | ⟨-, -, h⟩ <;> rw [h] <;> simp

theorem universeFrame_isFrame (u : Memory) (a : TxAnswer) : (TxEvent.write (universeFrame u) a).IsFrame := by
  refine ⟨length_universeFrame u, ?_, ?_⟩
  · simp [universeFrame, frame, nchan, startDelim, labelByte, startCode, le16]
  · have e : universeFrame u =
        ([startDelim, labelByte] ++ le16 (BitVec.ofNat 16 ((u.readAll 1 nchan).length + 1)) ++ [startCode] ++
          u.readAll 1 nchan) ++ [endDelim] := rfl
    rw [e, List.getLast?_concat]
    rfl

end Sys2Proof.Machine
end

