-- ==== Sys2Proof/Laws/PerInstr.lean ====
section
/-! SUPPORT. One statement per command about its packet (LAWS.json, "per_instruction"): the packet of a well-formed
command starts with its opcode, has the length its format gives, and its first byte is in the opcode map. -/

namespace Sys2Proof.Laws.EncodedForm

/-- The packet of `i` opens with its opcode and has the length of its format (30_encoding.md R99, R100, R101). -/
def Statement (i : Instr) : Prop :=
  i.wellFormed = true →
    (encode i).head? = some (opcode i) ∧ (encode i).length = packetLength (encode i) ∧
      decodeOp (opcode i) (operandBytes i) ≠ .error .illegalOpcode

/-- The count operand of a packet, read back. -/
theorem count_readBack {n : Nat} (h : n ≤ 65535) :
    (u16 ((BitVec.ofNat 16 n).extractLsb' 0 8) ((BitVec.ofNat 16 n).extractLsb' 8 8)).toNat = n := by
  rw [u16_le16, BitVec.toNat_ofNat]
  omega

theorem encode (data : List Byte) : Statement (.encode data) := by
  intro h
  have h : data.length ≤ 65535 := by simpa [Instr.wellFormed] using h
  refine ⟨rfl, ?_, ?_⟩
  · have e : packetLength (Sys2Proof.encode (.encode data)) =
        3 + (u16 ((BitVec.ofNat 16 data.length).extractLsb' 0 8)
          ((BitVec.ofNat 16 data.length).extractLsb' 8 8)).toNat := rfl
    rw [e, count_readBack h]
    simp [Sys2Proof.encode, operandBytes]
    omega
  · simp [decodeOp, opcode, operandBytes, parseFE, le16]
    split <;> simp

theorem setch (index : Half) (value : Half) : Statement (.setch index value) := by
  intro _
  exact ⟨rfl, rfl, nofun⟩

theorem getch (index : Half) : Statement (.getch index) := by
  intro _
  exact ⟨rfl, rfl, nofun⟩

theorem setrng (start : Half) (values : List Half) : Statement (.setrng start values) := by
  intro h
  have h : values.length ≤ 65535 := by simpa [Instr.wellFormed] using h
  refine ⟨rfl, ?_, ?_⟩
  · have e : packetLength (Sys2Proof.encode (.setrng start values)) =
        5 + 2 * (u16 ((BitVec.ofNat 16 values.length).extractLsb' 0 8)
          ((BitVec.ofNat 16 values.length).extractLsb' 8 8)).toNat := rfl
    rw [e, count_readBack h]
    simp [Sys2Proof.encode, operandBytes]
    omega
  · simp [decodeOp, opcode, operandBytes, parseFR, le16]
    split <;> simp

theorem transmit : Statement .transmit := by
  intro _
  exact ⟨rfl, rfl, nofun⟩

theorem close : Statement .close := by
  intro _
  exact ⟨rfl, rfl, nofun⟩

theorem view (v : Byte) (start : Half) (count : Half) : Statement (.view v start count) := by
  intro _
  exact ⟨rfl, rfl, nofun⟩

theorem vset (v : Byte) (off : Half) (value : Half) : Statement (.vset v off value) := by
  intro _
  exact ⟨rfl, rfl, nofun⟩

theorem vget (v : Byte) (off : Half) : Statement (.vget v off) := by
  intro _
  exact ⟨rfl, rfl, nofun⟩

theorem dimmer (base : Half) (value : Half) : Statement (.dimmer base value) := by
  intro _
  exact ⟨rfl, rfl, nofun⟩

theorem red (base : Half) (value : Half) : Statement (.red base value) := by
  intro _
  exact ⟨rfl, rfl, nofun⟩

theorem green (base : Half) (value : Half) : Statement (.green base value) := by
  intro _
  exact ⟨rfl, rfl, nofun⟩

theorem blue (base : Half) (value : Half) : Statement (.blue base value) := by
  intro _
  exact ⟨rfl, rfl, nofun⟩

theorem stroberate (base : Half) (value : Half) : Statement (.stroberate base value) := by
  intro _
  exact ⟨rfl, rfl, nofun⟩

theorem program (base : Half) (value : Half) : Statement (.program base value) := by
  intro _
  exact ⟨rfl, rfl, nofun⟩

theorem setrgb (base : Half) (r : Half) (g : Half) (b : Half) : Statement (.setrgb base r g b) := by
  intro _
  exact ⟨rfl, rfl, nofun⟩

theorem armon : Statement .armon := by
  intro _
  exact ⟨rfl, rfl, nofun⟩

theorem armoff : Statement .armoff := by
  intro _
  exact ⟨rfl, rfl, nofun⟩

theorem armsafe : Statement .armsafe := by
  intro _
  exact ⟨rfl, rfl, nofun⟩

theorem clrsafe : Statement .clrsafe := by
  intro _
  exact ⟨rfl, rfl, nofun⟩

theorem strobe (freqMhz : Word) (durMs : Word) (phase0 : Byte) : Statement (.strobe freqMhz durMs phase0) := by
  intro _
  exact ⟨rfl, rfl, nofun⟩

theorem rdsr : Statement .rdsr := by
  intro _
  exact ⟨rfl, rfl, nofun⟩

end Sys2Proof.Laws.EncodedForm
end

