-- ==== Sys2Proof/Laws/Step.lean ====
section
/-! SUPPORT. Everything a step can do, and everything a command can do, said once. -/

namespace Sys2Proof.Machine

theorem State.hostPassive_of_nil {s : State} (h : s.host = []) : s.HostPassive := by
  simp [State.HostPassive, h]

theorem OscState.isRunning_iff (o : OscState) : o.isRunning = true ↔ ∃ pos, o = .running pos := by
  cases o <;> simp [OscState.isRunning]

/-- While the port is busy and HOST makes no request, the block moves. -/
theorem busyStep_passive {s : State} (h : s.HostPassive) (act : State → State) : busyStep act s = .next (s.endPass (act s)) := by
  unfold busyStep
  obtain ⟨h1, h2⟩ := h
  split <;> simp_all

/-- The loop's step (43_oscillator.md R198 to R203). -/
theorem step_running {s : State} {pos : LoopPos} (ho : s.osc = .running pos) (hh : s.hung = false)
    (hp : s.HostPassive) : step s = .next (s.endPass (s.loopStep pos)) := by
  simp [step, advance, hh, ho, busyStep_passive hp]

/-- The loop's step with no move of HOST to come. -/
theorem step_running_quiet {s : State} {pos : LoopPos} (ho : s.osc = .running pos) (hh : s.hung = false)
    (hq : s.host = []) : step s = .next (s.loopStep pos) := by
  rw [step_running ho hh (State.hostPassive_of_nil hq), State.endPass_of_host_nil hq]

/-- With the port free the step is HOST's. -/
theorem advance_portFree {s : State} (h : s.PortFree) : step s = hostStep s := by
  obtain ⟨h1, h2⟩ := h
  unfold step advance
  rw [h1]
  cases ho : s.osc <;> simp_all [OscState.isRunning]

/-- The busy step inverted. -/
theorem busyStep_cases {act : State → State} {s t : State} (h : busyStep act s = .next t) :
    (∃ hs, s.host = .reset :: hs ∧ t = State.resetInput { s with host := hs }) ∨
    (∃ hs, s.host = .cancel :: hs ∧ t = State.latchCancel true { s with host := hs }) ∨
    (s.HostPassive ∧ t = s.endPass (act s)) := by
  unfold busyStep at h
  split at h <;> simp_all [State.HostPassive]

/-- Everything a step can do. -/
theorem step_cases {s t : State} (h : step s = .next t) :
    (∃ hs, s.host = .reset :: hs ∧ t = State.resetInput { s with host := hs }) ∨
    (∃ hs, s.host = .cancel :: hs ∧ t = State.latchCancel true { s with host := hs }) ∨
    (s.HostPassive ∧ s.hung = true ∧ t = s.elapse 1) ∨
    (s.HostPassive ∧ s.hung = false ∧ ∃ pos, s.osc = .running pos ∧ t = s.endPass (s.loopStep pos)) ∨
    (s.PortFree ∧ s.host = [] ∧ t = s.tick 1) ∨
    (s.PortFree ∧ ∃ n hs, s.host = .wait n :: hs ∧ t = State.tick n { s with host := hs }) ∨
    (s.PortFree ∧ ∃ hs, s.host = .pass :: hs ∧ t = { s with host := hs }) ∨
    (s.PortFree ∧ ∃ bs hs i, s.host = .packet bs :: hs ∧ decode bs = .ok i ∧
      exec i { s with host := hs } = .next t) ∨
    (s.PortFree ∧ ∃ bs hs e, s.host = .packet bs :: hs ∧ decode bs = .error e ∧
      t = State.refuse { s with host := hs }) := by
  rcases Bool.eq_false_or_eq_true s.hung with hh | hh
  · have h' : busyStep (State.elapse 1) s = .next t := by simpa [step, advance, hh] using h
    rcases busyStep_cases h' with h1 | h1 | ⟨h1, h2⟩
    · exact .inl h1
    · exact .inr (.inl h1)
    · exact .inr (.inr (.inl ⟨h1, hh, by rw [h2, State.endPass_of_hung s (by simpa using hh)]⟩))
  rcases Bool.eq_false_or_eq_true s.osc.isRunning with hr | hr
  · obtain ⟨pos, hpos⟩ := (OscState.isRunning_iff _).1 hr
    have h' : busyStep (State.loopStep pos) s = .next t := by simpa [step, advance, hh, hpos] using h
    rcases busyStep_cases h' with h1 | h1 | ⟨h1, h2⟩
    · exact .inl h1
    · exact .inr (.inl h1)
    · exact .inr (.inr (.inr (.inl ⟨h1, hh, pos, hpos, h2⟩)))
  have hp : s.PortFree := ⟨hh, hr⟩
  rw [advance_portFree hp] at h
  unfold hostStep at h
  split at h
  · next e => cases h; exact .inr (.inr (.inr (.inr (.inl ⟨hp, e, rfl⟩))))
  · next bs hs e =>
    unfold runPacket at h
    split at h
    · next i hd => exact .inr (.inr (.inr (.inr (.inr (.inr (.inr (.inl ⟨hp, bs, hs, i, e, hd, h⟩)))))))
    · next x hd => cases h; exact .inr (.inr (.inr (.inr (.inr (.inr (.inr (.inr ⟨hp, bs, hs, x, e, hd, rfl⟩)))))))
  · next n hs e => cases h; exact .inr (.inr (.inr (.inr (.inr (.inl ⟨hp, n, hs, e, rfl⟩)))))
  · next hs e => cases h; exact .inr (.inr (.inr (.inr (.inr (.inr (.inl ⟨hp, hs, e, rfl⟩))))))
  · next hs e => cases h; exact .inr (.inl ⟨hs, e, rfl⟩)
  · next hs e => cases h; exact .inl ⟨hs, e, rfl⟩

/-! ### Commands -/

/-- The table of 60_exceptions.md R232 is the negation of each command's operand check. -/
theorem outOfRange_storeControl (base : Half) :
    (base.toNat < 1 ∨ 512 < base.toNat + 5) ↔ footprintOk base = false := by
  rw [← Bool.not_eq_true, footprintOk_iff]
  omega

theorem outOfRange_chan (c : Half) : (c.toNat < 1 ∨ 512 < c.toNat) ↔ chanOk c = false := by
  rw [← Bool.not_eq_true, chanOk_iff]
  omega

theorem outOfRange_range (c : Half) (n : Nat) :
    (c.toNat < 1 ∨ 512 < c.toNat ∨ (512 : Int) < c.toNat + n - 1) ↔ rangeOk c n = false := by
  rw [← Bool.not_eq_true, rangeOk_iff]
  omega

theorem outOfRange_view (s : State) (v : Byte) (c n : Half) :
    (s.views.length ≤ v.toNat ∨ c.toNat < 1 ∨ 512 < c.toNat ∨ (512 : Int) - n.toNat + 1 < c.toNat) ↔
      (decide (v.toNat < s.nview) && viewOk c n) = false := by
  rw [← Bool.not_eq_true, Bool.and_eq_true, decide_eq_true_iff, viewOk_iff]
  unfold State.nview
  omega

theorem outOfRange_viewAccess (s : State) (v : Byte) (off : Half) :
    (s.views.length ≤ v.toNat ∨ (s.slot v).valid = false ∨ (s.slot v).count.toNat ≤ off.toNat) ↔
      s.viewAccessOk v off = false := by
  unfold State.viewAccessOk State.nview
  simp only [Bool.and_eq_false_iff, decide_eq_false_iff_not, Nat.not_lt, or_assoc]

theorem outOfRange_strobe (f : Word) (p : Byte) : (f.toNat = 0 ∨ 1 < p.toNat) ↔ strobeOk f p = false := by
  rw [← Bool.not_eq_true, strobeOk_iff]
  omega

/-- A view access that passes its check stays in 1..512 when the slots keep the view invariant (20_memory.md R63). -/
theorem viewChan_bounds {s : State} {v : Byte} {off : Half} (hv : s.ViewsOk) (h : s.viewAccessOk v off = true) :
    1 ≤ s.viewChan v off ∧ s.viewChan v off ≤ 512 := by
  obtain ⟨w, hw, hvalid, hoff, hslot⟩ := (viewAccessOk_iff s v off).1 h
  obtain ⟨h1, h2, h3⟩ := hv w (List.mem_of_getElem? hw) hvalid
  unfold State.viewChan
  rw [hslot]
  omega

/-- Everything a command can do, by the shape of its effect: an error other than a TransmitError of TRANSMIT, a reading
response, a write of the universe inside 1..512, a view slot built, a transmission, the release, a snapshot armed, a run
started. -/
theorem exec_cases {i : Instr} {s t : State} (h : exec i s = .next t) :
    (t = s.afterOor ∧ OutOfRange s i) ∨
    (t = s.raise .encodingError [] ∧ ∃ data, i = .encode data) ∨
    (∃ d, t = s.respond .ok d ∧ ¬ OutOfRange s i) ∨
    (∃ c vs, t = s.storeRange c vs ∧ ¬ OutOfRange s i ∧ (s.ViewsOk → 1 ≤ c ∧ c + vs.length ≤ 513)) ∨
    (∃ v c n, i = .view v c n ∧ viewOk c n = true ∧ t = (s.buildView v c n).respond .ok [] ∧ ¬ OutOfRange s i) ∨
    (i = .transmit ∧ t = transmitDone s.transmitCore) ∨
    (i = .close ∧ t = s.release.respond .ok []) ∨
    (i = .armon ∧ t = State.respond .ok [] { s with snapOn := s.u }) ∨
    (i = .armoff ∧ t = State.respond .ok [] { s with snapOff := s.u }) ∨
    (i = .armsafe ∧ t = State.respond .ok [] { s with snapSafe := s.u }) ∨
    (i = .clrsafe ∧ t = State.respond .ok [] { s with snapSafe := [] }) ∨
    (∃ f d p, i = .strobe f d p ∧ f.toNat ≠ 0 ∧ p.toNat ≤ 1 ∧ t = s.startRun f d p) := by
  have control : ∀ k (base value : Half), k ≤ 5 → t = s.storeControl k base value →
      ((base.toNat < 1 ∨ 512 < base.toNat + 5) ↔ OutOfRange s i) →
      (t = s.afterOor ∧ OutOfRange s i) ∨
      (∃ c vs, t = s.storeRange c vs ∧ ¬ OutOfRange s i ∧ (s.ViewsOk → 1 ≤ c ∧ c + vs.length ≤ 513)) := by
    intro k base value hk ht hio
    rw [outOfRange_storeControl] at hio
    subst ht
    unfold State.storeControl
    cases hok : footprintOk base with
    | false => exact .inl ⟨State.guarded_false rfl _ s, hio.1 hok⟩
    | true =>
      refine .inr ⟨fixtureChan base k, [clamp8 value], by rw [State.guarded_true rfl]; rfl, ?_, ?_⟩
      · rw [← hio, hok]; simp
      · intro _
        have := (footprintOk_iff base).1 hok
        simp only [fixtureChan, List.length_cons, List.length_nil]
        omega
  cases i with
  | encode data =>
    simp only [exec, execEncode, Host.Outcome.next.injEq] at h
    split at h
    · exact .inr (.inl ⟨h.symm, data, rfl⟩)
    · exact .inr (.inr (.inl ⟨_, h.symm, fun h => h⟩))
  | setch index value =>
    simp only [exec, execSetch, Host.Outcome.next.injEq] at h
    cases hok : chanOk index with
    | false => rw [State.guarded_false hok] at h; exact .inl ⟨h.symm, (outOfRange_chan index).2 hok⟩
    | true =>
      rw [State.guarded_true hok] at h
      have hb := (chanOk_iff index).1 hok
      refine .inr (.inr (.inr (.inl ⟨index.toNat, [clamp8 value], h.symm, ?_, fun _ => ?_⟩)))
      · exact fun hn => by simpa [hok] using (outOfRange_chan index).1 hn
      · simp only [List.length_cons, List.length_nil]; omega
  | getch index =>
    simp only [exec, execGetch, Host.Outcome.next.injEq] at h
    cases hok : chanOk index with
    | false => rw [State.guarded_false hok] at h; exact .inl ⟨h.symm, (outOfRange_chan index).2 hok⟩
    | true =>
      rw [State.guarded_true hok] at h
      exact .inr (.inr (.inl ⟨_, h.symm, fun hn => by simpa [hok] using (outOfRange_chan index).1 hn⟩))
  | setrng start values =>
    simp only [exec, execSetrng, Host.Outcome.next.injEq] at h
    cases hok : rangeOk start values.length with
    | false => rw [State.guarded_false hok] at h; exact .inl ⟨h.symm, (outOfRange_range _ _).2 hok⟩
    | true =>
      rw [State.guarded_true hok] at h
      have hb := (rangeOk_iff _ _).1 hok
      refine .inr (.inr (.inr (.inl ⟨start.toNat, values.map clamp8, h.symm, ?_, fun _ => ?_⟩)))
      · exact fun hn => by simpa [hok] using (outOfRange_range _ _).1 hn
      · rw [List.length_map]; omega
  | transmit =>
    simp only [exec, execTransmit, Host.Outcome.next.injEq] at h
    exact .inr (.inr (.inr (.inr (.inr (.inl ⟨rfl, h.symm⟩)))))
  | close =>
    simp only [exec, execClose, Host.Outcome.next.injEq] at h
    exact .inr (.inr (.inr (.inr (.inr (.inr (.inl ⟨rfl, h.symm⟩))))))
  | view v start count =>
    simp only [exec, execView, Host.Outcome.next.injEq] at h
    cases hok : (decide (v.toNat < s.nview) && viewOk start count) with
    | false => rw [State.guarded_false hok] at h; exact .inl ⟨h.symm, (outOfRange_view s v start count).2 hok⟩
    | true =>
      rw [State.guarded_true hok] at h
      exact .inr (.inr (.inr (.inr (.inl ⟨v, start, count, rfl, (Bool.and_eq_true _ _ ▸ hok).2, h.symm,
        fun hn => by simpa [hok] using (outOfRange_view s v start count).1 hn⟩))))
  | vset v off value =>
    simp only [exec, execVset, Host.Outcome.next.injEq] at h
    cases hok : s.viewAccessOk v off with
    | false => rw [State.guarded_false hok] at h; exact .inl ⟨h.symm, (outOfRange_viewAccess s v off).2 hok⟩
    | true =>
      rw [State.guarded_true hok] at h
      refine .inr (.inr (.inr (.inl ⟨s.viewChan v off, [clamp8 value], h.symm, ?_, fun hv => ?_⟩)))
      · exact fun hn => by simpa [hok] using (outOfRange_viewAccess s v off).1 hn
      · have := viewChan_bounds hv hok
        simp only [List.length_cons, List.length_nil]
        omega
  | vget v off =>
    simp only [exec, execVget, Host.Outcome.next.injEq] at h
    cases hok : s.viewAccessOk v off with
    | false => rw [State.guarded_false hok] at h; exact .inl ⟨h.symm, (outOfRange_viewAccess s v off).2 hok⟩
    | true =>
      rw [State.guarded_true hok] at h
      exact .inr (.inr (.inl ⟨_, h.symm, fun hn => by simpa [hok] using (outOfRange_viewAccess s v off).1 hn⟩))
  | dimmer base value =>
    simp only [exec, execDimmer, Host.Outcome.next.injEq] at h
    rcases control 0 base value (by omega) h.symm Iff.rfl with h' | h'
    · exact .inl h'
    · exact .inr (.inr (.inr (.inl h')))
  | red base value =>
    simp only [exec, execRed, Host.Outcome.next.injEq] at h
    rcases control 1 base value (by omega) h.symm Iff.rfl with h' | h'
    · exact .inl h'
    · exact .inr (.inr (.inr (.inl h')))
  | green base value =>
    simp only [exec, execGreen, Host.Outcome.next.injEq] at h
    rcases control 2 base value (by omega) h.symm Iff.rfl with h' | h'
    · exact .inl h'
    · exact .inr (.inr (.inr (.inl h')))
  | blue base value =>
    simp only [exec, execBlue, Host.Outcome.next.injEq] at h
    rcases control 3 base value (by omega) h.symm Iff.rfl with h' | h'
    · exact .inl h'
    · exact .inr (.inr (.inr (.inl h')))
  | stroberate base value =>
    simp only [exec, execStroberate, Host.Outcome.next.injEq] at h
    rcases control 4 base value (by omega) h.symm Iff.rfl with h' | h'
    · exact .inl h'
    · exact .inr (.inr (.inr (.inl h')))
  | program base value =>
    simp only [exec, execProgram, Host.Outcome.next.injEq] at h
    rcases control 5 base value (by omega) h.symm Iff.rfl with h' | h'
    · exact .inl h'
    · exact .inr (.inr (.inr (.inl h')))
  | setrgb base r g b =>
    simp only [exec, execSetrgb, Host.Outcome.next.injEq] at h
    cases hok : footprintOk base with
    | false => rw [State.guarded_false hok] at h; exact .inl ⟨h.symm, (outOfRange_storeControl base).2 hok⟩
    | true =>
      rw [State.guarded_true hok] at h
      have hb := (footprintOk_iff base).1 hok
      refine .inr (.inr (.inr (.inl ⟨_, _, h.symm, ?_, fun _ => ?_⟩)))
      · exact fun hn => by simpa [hok] using (outOfRange_storeControl base).1 hn
      · simp only [fixtureChan, List.length_cons, List.length_nil]; omega
  | armon =>
    simp only [exec, execArmon, Host.Outcome.next.injEq] at h
    exact .inr (.inr (.inr (.inr (.inr (.inr (.inr (.inl ⟨rfl, h.symm⟩)))))))
  | armoff =>
    simp only [exec, execArmoff, Host.Outcome.next.injEq] at h
    exact .inr (.inr (.inr (.inr (.inr (.inr (.inr (.inr (.inl ⟨rfl, h.symm⟩))))))))
  | armsafe =>
    simp only [exec, execArmsafe, Host.Outcome.next.injEq] at h
    exact .inr (.inr (.inr (.inr (.inr (.inr (.inr (.inr (.inr (.inl ⟨rfl, h.symm⟩)))))))))
  | clrsafe =>
    simp only [exec, execClrsafe, Host.Outcome.next.injEq] at h
    exact .inr (.inr (.inr (.inr (.inr (.inr (.inr (.inr (.inr (.inr (.inl ⟨rfl, h.symm⟩))))))))))
  | strobe f d p =>
    simp only [exec, execStrobe, Host.Outcome.next.injEq] at h
    cases hok : strobeOk f p with
    | false => rw [State.guarded_false hok] at h; exact .inl ⟨h.symm, (outOfRange_strobe f p).2 hok⟩
    | true =>
      rw [State.guarded_true hok] at h
      have hb := (strobeOk_iff f p).1 hok
      exact .inr (.inr (.inr (.inr (.inr (.inr (.inr (.inr (.inr (.inr (.inr
        ⟨f, d, p, rfl, hb.1, hb.2, h.symm⟩))))))))))
  | rdsr =>
    simp only [exec, execRdsr, Host.Outcome.next.injEq] at h
    exact .inr (.inr (.inl ⟨_, h.symm, fun h => h⟩))

/-! ### Several steps -/

theorem State.runFor_succ {s t : State} (h : step s = .next t) (k : Nat) : s.runFor (k + 1) = t.runFor k := by
  simp only [State.runFor, h]

theorem State.runFor_one {s t : State} (h : step s = .next t) : s.runFor 1 = .next t :=
  State.runFor_succ h 0

/-- A run that answers goes on from where it stands. -/
theorem State.runFor_add {s t : State} {a : Nat} (h : s.runFor a = .next t) (b : Nat) :
    s.runFor (a + b) = t.runFor b := by
  induction a generalizing s with
  | zero => cases h; rw [Nat.zero_add]
  | succ a ih =>
    rw [Nat.add_right_comm]
    cases h' : step s with
    | next s' => rw [State.runFor_succ h'] at h ⊢; exact ih h
    | fault r => cases r
    | refused r => simp [State.runFor, h'] at h

end Sys2Proof.Machine
end

