-- ==== Sys2Proof/Tests/Slice0.lean ====
section
/-! SUPPORT. The model's own tests. Every expected value is written out from the spec, most from the vectors of
95_test_vectors.md, whose id the comment names. After the tests stand the witnesses: for every statement with hypotheses,
a concrete state and operands that meet them. -/

namespace Sys2Proof.Tests

open Sys2Proof Sys2Proof.Machine

/-! ### WellFormed refuses each ill-formed term -/

/-- A count above 65535 does not fit the u16 operand of ENCODE (30_encoding.md R99). -/
theorem test_encode_count_too_large : (Instr.encode (List.replicate 65536 0#8)).wellFormed = false := by
  rw [Instr.wellFormed, List.length_replicate]
  decide

/-- The largest count that does. -/
theorem test_encode_count_largest : (Instr.encode (List.replicate 65535 0#8)).wellFormed = true := by
  rw [Instr.wellFormed, List.length_replicate]
  decide

/-- A count above 65535 does not fit the u16 operand of SETRNG (30_encoding.md R99). -/
theorem test_setrng_count_too_large : (Instr.setrng 1#16 (List.replicate 65536 0#16)).wellFormed = false := by
  rw [Instr.wellFormed, List.length_replicate]
  decide

/-- The largest count that does. -/
theorem test_setrng_count_largest : (Instr.setrng 1#16 (List.replicate 65535 0#16)).wellFormed = true := by
  rw [Instr.wellFormed, List.length_replicate]
  decide

/-! ### Decoding: every command by a packet of the spec -/

/-- E12. -/
theorem test_decode_encode : decode [0x10#8, 0x03#8, 0x00#8, 0xFF#8, 0x00#8, 0x80#8] =
    .ok (.encode [255#8, 0#8, 128#8]) := by decide

/-- E11. -/
theorem test_decode_encode_empty : decode [0x10#8, 0x00#8, 0x00#8] =
    .ok (.encode []) := by decide

/-- U4. -/
theorem test_decode_setch : decode [0x20#8, 0x00#8, 0x02#8, 0x2C#8, 0x01#8] =
    .ok (.setch 512#16 300#16) := by decide

/-- P2 step 5. -/
theorem test_decode_getch : decode [0x21#8, 0xFC#8, 0x01#8] =
    .ok (.getch 508#16) := by decide

/-- U10. -/
theorem test_decode_setrng : decode [0x22#8, 0xFB#8, 0x01#8, 0x06#8, 0x00#8, 0x2C#8, 0x01#8, 0xFB#8, 0xFF#8, 0x80#8, 0x00#8, 0x00#8, 0x00#8, 0x01#8, 0x00#8, 0xFF#8, 0x00#8] =
    .ok (.setrng 507#16 [300#16, -5#16, 128#16, 0#16, 1#16, 255#16]) := by decide

/-- U25. -/
theorem test_decode_transmit : decode [0x23#8] =
    .ok (.transmit) := by decide

/-- U28. -/
theorem test_decode_close : decode [0x24#8] =
    .ok (.close) := by decide

/-- U16. -/
theorem test_decode_view : decode [0x28#8, 0x01#8, 0xFE#8, 0x01#8, 0x06#8, 0x00#8] =
    .ok (.view 1#8 510#16 6#16) := by decide

/-- U21. -/
theorem test_decode_vset : decode [0x29#8, 0x00#8, 0x05#8, 0x00#8, 0xFF#8, 0x00#8] =
    .ok (.vset 0#8 5#16 255#16) := by decide

/-- P2 step 6. -/
theorem test_decode_vget : decode [0x2A#8, 0x00#8, 0x02#8, 0x00#8] =
    .ok (.vget 0#8 2#16) := by decide

/-- M7. -/
theorem test_decode_dimmer : decode [0x30#8, 0xFC#8, 0x01#8, 0x01#8, 0x00#8] =
    .ok (.dimmer 508#16 1#16) := by decide

/-- M2. -/
theorem test_decode_red : decode [0x31#8, 0x0A#8, 0x00#8, 0x80#8, 0x00#8] =
    .ok (.red 10#16 128#16) := by decide

/-- M3. -/
theorem test_decode_green : decode [0x32#8, 0x0A#8, 0x00#8, 0xFD#8, 0xFF#8] =
    .ok (.green 10#16 (-3#16)) := by decide

/-- M4. -/
theorem test_decode_blue : decode [0x33#8, 0x0A#8, 0x00#8, 0xE7#8, 0x03#8] =
    .ok (.blue 10#16 999#16) := by decide

/-- M5. -/
theorem test_decode_stroberate : decode [0x34#8, 0x01#8, 0x00#8, 0x00#8, 0x00#8] =
    .ok (.stroberate 1#16 0#16) := by decide

/-- M6. -/
theorem test_decode_program : decode [0x35#8, 0xFB#8, 0x01#8, 0x07#8, 0x00#8] =
    .ok (.program 507#16 7#16) := by decide

/-- M10. -/
theorem test_decode_setrgb : decode [0x36#8, 0xFB#8, 0x01#8, 0x2C#8, 0x01#8, 0xFF#8, 0xFF#8, 0x11#8, 0x00#8] =
    .ok (.setrgb 507#16 300#16 (-1#16) 17#16) := by decide

/-- O21. -/
theorem test_decode_armon : decode [0x40#8] =
    .ok (.armon) := by decide

/-- O22. -/
theorem test_decode_armoff : decode [0x41#8] =
    .ok (.armoff) := by decide

/-- O23. -/
theorem test_decode_armsafe : decode [0x42#8] =
    .ok (.armsafe) := by decide

/-- O24. -/
theorem test_decode_clrsafe : decode [0x43#8] =
    .ok (.clrsafe) := by decide

/-- O2. -/
theorem test_decode_strobe : decode [0x44#8, 0x40#8, 0x1F#8, 0x00#8, 0x00#8, 0xFA#8, 0x00#8, 0x00#8, 0x00#8, 0x01#8] =
    .ok (.strobe 8000#32 250#32 1#8) := by decide

/-- 30_encoding.md R97, every byte of both u32 operands. -/
theorem test_decode_strobe_u32 : decode [0x44#8, 0x04#8, 0x03#8, 0x02#8, 0x01#8, 0xD4#8, 0xC3#8, 0xB2#8, 0xA1#8, 0x00#8] =
    .ok (.strobe 0x01020304#32 0xA1B2C3D4#32 0#8) := by decide

/-- O25. -/
theorem test_decode_rdsr : decode [0x45#8] =
    .ok (.rdsr) := by decide

/-- E15: one data byte short of its count. -/
theorem test_decode_encode_short : decode [0x10#8, 0x03#8, 0x00#8, 0xFF#8, 0x00#8] = .error .wrongLength := by decide

/-- U32: SETCH one byte short. -/
theorem test_decode_setch_short : decode [0x20#8, 0x07#8, 0x00#8, 0xC8#8] = .error .wrongLength := by decide

/-- U31: an unassigned opcode. -/
theorem test_decode_unassigned : decode [0x25#8] = .error .illegalOpcode := by decide

/-- An opcode-table word with its operand bytes left out decodes with zero operands (30_encoding.md R100). -/
theorem test_decode_table_word :
    decodeTableWord 8 0x36 = some (.setrgb 0#16 0#16 0#16 0#16) ∧
    decodeTableWord 40 0x012C020020 = some (.setch 512#16 300#16) := by decide

/-- The default parameters keep the bounds of 00_scope.md section 5; 1500 Hz is no multiple of 1000, 257 slots are too
many. -/
theorem test_parameter_bounds :
    Config.default.ok = true ∧ Config.ok { tickHz := 1500, nview := 4 } = false ∧
    Config.ok { tickHz := 1000000, nview := 257 } = false := by decide

/-! ### Single steps -/

/-- The state after the packet `bs` is presented to `s` at a free port, read through `f`. -/
def after {α : Type} (bs : List Byte) (s : State) (f : State → α) : Option α :=
  match step (s.placePacket bs) with
  | .next t => some (f t)
  | .fault _ => none
  | .refused _ => none

/-- The state after one step of `s`, read through `f`. -/
def stepped {α : Type} (s : State) (f : State → α) : Option α :=
  match step s with
  | .next t => some (f t)
  | .fault _ => none
  | .refused _ => none

/-- The bytes of the last response. -/
def lastResponse (t : State) : Option (List Byte) := t.respLog.getLast?.map Response.bytes

/-- Reset, the transport answering the next write with `a` after 45000 ticks. -/
def answering (a : TxAnswer) : State := { State.reset with replies := [.answered a 45000] }

/-- Channels 507 to 512 as P2 step 3 leaves them. -/
def p2Universe : Memory := [(507, 255#8), (509, 128#8), (511, 1#8), (512, 255#8)]

/-- Reset with slot 0 built as U15 builds it, and the universe of P2 step 3. -/
def withView : State :=
  { State.reset with
    u := p2Universe
    views := [{ start := 507#10, count := 6#10, valid := true }, View.empty, View.empty, View.empty] }

/-- O1 just started: HALF = 62500, DUR = 250000, writes of 45000 ticks, at the position `pos` of the loop. -/
def strobing (pos : LoopPos) : State :=
  { answering (.ok 518) with osc := .running pos, half := 62500#64, dur := 250000#64, snapOn := [(1, 255#8)] }

/-- E12. -/
theorem test_encode_frame :
    after [0x10#8, 0x03#8, 0x00#8, 0xFF#8, 0x00#8, 0x80#8] State.reset (fun t => (lastResponse t, t.u, t.txLog)) =
      some (some [0x00#8, 0x09#8, 0x00#8, 0x7E#8, 0x06#8, 0x04#8, 0x00#8, 0x00#8, 0xFF#8, 0x00#8, 0x80#8, 0xE7#8], [], []) := by decide

/-- U3: clamped, not wrapped to 0. -/
theorem test_setch_clamps_high :
    after [0x20#8, 0x00#8, 0x02#8, 0x00#8, 0x01#8] State.reset (fun t => (lastResponse t, t.u, t.eOor)) =
      some (some [0x00#8, 0x00#8, 0x00#8], [(512, 255#8)], false) := by decide

/-- U6. -/
theorem test_setch_out_of_range :
    after [0x20#8, 0x01#8, 0x02#8, 0x05#8, 0x00#8] withView (fun t => (lastResponse t, t.u, t.eOor)) =
      some (some [0x02#8, 0x00#8, 0x00#8], p2Universe, true) := by decide

/-- P2 step 5, channel 512 in place of 508. -/
theorem test_getch_reads :
    after [0x21#8, 0x00#8, 0x02#8] withView (fun t => (lastResponse t, t.u)) =
      some (some [0x00#8, 0x01#8, 0x00#8, 0xFF#8], p2Universe) := by decide

/-- U9. -/
theorem test_getch_zero :
    after [0x21#8, 0x00#8, 0x00#8] State.reset (fun t => (lastResponse t, t.eOor)) =
      some (some [0x02#8, 0x00#8, 0x00#8], true) := by decide

/-- U10. -/
theorem test_setrng_whole :
    after [0x22#8, 0xFB#8, 0x01#8, 0x06#8, 0x00#8, 0x2C#8, 0x01#8, 0xFB#8, 0xFF#8, 0x80#8, 0x00#8, 0x00#8, 0x00#8, 0x01#8, 0x00#8, 0xFF#8, 0x00#8] State.reset (fun t => (lastResponse t, t.u)) =
      some (some [0x00#8, 0x00#8, 0x00#8], p2Universe) := by decide

/-- U11. -/
theorem test_setrng_nothing_written :
    after [0x22#8, 0xFE#8, 0x01#8, 0x06#8, 0x00#8, 0x01#8, 0x00#8, 0x02#8, 0x00#8, 0x03#8, 0x00#8, 0x04#8, 0x00#8, 0x05#8, 0x00#8, 0x06#8, 0x00#8] State.reset (fun t => (lastResponse t, t.u, t.eOor)) =
      some (some [0x02#8, 0x00#8, 0x00#8], [], true) := by decide

/-- U27. -/
theorem test_transmit_short_write :
    after [0x23#8] (answering (.ok 100)) (fun t => (lastResponse t, t.eTx, t.tpOpen, t.now)) =
      some (some [0x03#8, 0x01#8, 0x00#8, 0x02#8], true, true, 45000#64) := by decide

/-- U30. -/
theorem test_transmit_closed :
    after [0x23#8] { State.reset with tpOpen := false } (fun t => (lastResponse t, t.eTx, t.txLog, t.now)) =
      some (some [0x03#8, 0x01#8, 0x00#8, 0x00#8], true, [], 0#64) := by decide

/-- U28. -/
theorem test_close_releases :
    after [0x24#8] State.reset (fun t => (lastResponse t, t.tpOpen, t.txLog)) =
      some (some [0x00#8, 0x00#8, 0x00#8], false, [.close]) := by decide

/-- U29. -/
theorem test_close_again :
    after [0x24#8] { State.reset with tpOpen := false, txLog := [.close] } (fun t => (lastResponse t, t.tpOpen, t.txLog)) =
      some (some [0x00#8, 0x00#8, 0x00#8], false, [.close]) := by decide

/-- U17. -/
theorem test_view_builds :
    after [0x28#8, 0x02#8, 0x01#8, 0x00#8, 0x00#8, 0x02#8] State.reset (fun t => (lastResponse t, t.views)) =
      some (some [0x00#8, 0x00#8, 0x00#8], [View.empty, View.empty, { start := 1#10, count := 512#10, valid := true }, View.empty]) := by decide

/-- U16. -/
theorem test_view_does_not_fit :
    after [0x28#8, 0x01#8, 0xFE#8, 0x01#8, 0x06#8, 0x00#8] withView (fun t => (lastResponse t, t.views, t.eOor)) =
      some (some [0x02#8, 0x00#8, 0x00#8], withView.views, true) := by decide

/-- U21. -/
theorem test_vset_last_channel :
    after [0x29#8, 0x00#8, 0x05#8, 0x00#8, 0x07#8, 0x00#8] withView (fun t => (lastResponse t, t.u.read 512, t.u.read 511)) =
      some (some [0x00#8, 0x00#8, 0x00#8], 7#8, 1#8) := by decide

/-- U23. -/
theorem test_vset_slot_never_built :
    after [0x29#8, 0x01#8, 0x00#8, 0x00#8, 0x01#8, 0x00#8] withView (fun t => (lastResponse t, t.u, t.eOor)) =
      some (some [0x02#8, 0x00#8, 0x00#8], p2Universe, true) := by decide

/-- P2 step 6. -/
theorem test_vget_reads :
    after [0x2A#8, 0x00#8, 0x02#8, 0x00#8] withView (fun t => (lastResponse t, t.u)) =
      some (some [0x00#8, 0x01#8, 0x00#8, 0x80#8], p2Universe) := by decide

/-- U22's offset. -/
theorem test_vget_outside :
    after [0x2A#8, 0x00#8, 0x06#8, 0x00#8] withView (fun t => (lastResponse t, t.eOor)) =
      some (some [0x02#8, 0x00#8, 0x00#8], true) := by decide

/-- M1. -/
theorem test_dimmer_sets :
    after [0x30#8, 0x01#8, 0x00#8, 0xFF#8, 0x00#8] State.reset (fun t => (lastResponse t, t.u)) =
      some (some [0x00#8, 0x00#8, 0x00#8], [(1, 255#8)]) := by decide

/-- M7: channel 508 exists. -/
theorem test_dimmer_footprint :
    after [0x30#8, 0xFC#8, 0x01#8, 0x01#8, 0x00#8] State.reset (fun t => (lastResponse t, t.u, t.eOor)) =
      some (some [0x02#8, 0x00#8, 0x00#8], [], true) := by decide

/-- M2. -/
theorem test_red_sets :
    after [0x31#8, 0x0A#8, 0x00#8, 0x80#8, 0x00#8] State.reset (fun t => (lastResponse t, t.u)) =
      some (some [0x00#8, 0x00#8, 0x00#8], [(11, 128#8)]) := by decide

/-- M3. -/
theorem test_green_clamps :
    after [0x32#8, 0x0A#8, 0x00#8, 0xFD#8, 0xFF#8] { State.reset with u := [(12, 9#8)] } (fun t => (lastResponse t, t.u)) =
      some (some [0x00#8, 0x00#8, 0x00#8], []) := by decide

/-- M4. -/
theorem test_blue_clamps :
    after [0x33#8, 0x0A#8, 0x00#8, 0xE7#8, 0x03#8] State.reset (fun t => (lastResponse t, t.u)) =
      some (some [0x00#8, 0x00#8, 0x00#8], [(13, 255#8)]) := by decide

/-- M5. -/
theorem test_stroberate_sets :
    after [0x34#8, 0x01#8, 0x00#8, 0x00#8, 0x00#8] { State.reset with u := [(5, 9#8), (6, 3#8)] } (fun t => (lastResponse t, t.u)) =
      some (some [0x00#8, 0x00#8, 0x00#8], [(6, 3#8)]) := by decide

/-- M6. -/
theorem test_program_sets :
    after [0x35#8, 0xFB#8, 0x01#8, 0x07#8, 0x00#8] State.reset (fun t => (lastResponse t, t.u)) =
      some (some [0x00#8, 0x00#8, 0x00#8], [(512, 7#8)]) := by decide

/-- M10. -/
theorem test_setrgb_sets :
    after [0x36#8, 0xFB#8, 0x01#8, 0x2C#8, 0x01#8, 0xFF#8, 0xFF#8, 0x11#8, 0x00#8] withView (fun t => (lastResponse t, t.u)) =
      some (some [0x00#8, 0x00#8, 0x00#8], [(507, 255#8), (508, 255#8), (510, 17#8), (511, 1#8), (512, 255#8)]) := by decide

/-- M11. -/
theorem test_setrgb_nothing_written :
    after [0x36#8, 0xFC#8, 0x01#8, 0x01#8, 0x00#8, 0x02#8, 0x00#8, 0x03#8, 0x00#8] State.reset (fun t => (lastResponse t, t.u, t.eOor)) =
      some (some [0x02#8, 0x00#8, 0x00#8], [], true) := by decide

/-- O21. -/
theorem test_armon_copies :
    after [0x40#8] { State.reset with u := [(1, 255#8)] } (fun t => (lastResponse t, t.snapOn, t.snapOff)) =
      some (some [0x00#8, 0x00#8, 0x00#8], [(1, 255#8)], []) := by decide

/-- O22. -/
theorem test_armoff_copies :
    after [0x41#8] { State.reset with snapOff := [(3, 1#8)] } (fun t => (lastResponse t, t.snapOff)) =
      some (some [0x00#8, 0x00#8, 0x00#8], []) := by decide

/-- O23. -/
theorem test_armsafe_copies :
    after [0x42#8] { State.reset with u := [(1, 10#8)] } (fun t => (lastResponse t, t.snapOff, t.snapSafe)) =
      some (some [0x00#8, 0x00#8, 0x00#8], [], [(1, 10#8)]) := by decide

/-- O24. -/
theorem test_clrsafe_clears :
    after [0x43#8] { State.reset with u := [(1, 10#8)], snapSafe := [(1, 10#8)] } (fun t => (lastResponse t, t.snapSafe, t.u)) =
      some (some [0x00#8, 0x00#8, 0x00#8], [], [(1, 10#8)]) := by decide

/-- O4. -/
theorem test_strobe_floor :
    after [0x44#8, 0xB8#8, 0x0B#8, 0x00#8, 0x00#8, 0xE8#8, 0x03#8, 0x00#8, 0x00#8, 0x00#8] State.reset (fun t => (t.osc, t.half, t.dur, t.phase, t.respLog)) =
      some (.running .top, 166666#64, 1000000#64, false, []) := by decide

/-- O8. -/
theorem test_strobe_reserved_phase :
    after [0x44#8, 0x40#8, 0x1F#8, 0x00#8, 0x00#8, 0xFA#8, 0x00#8, 0x00#8, 0x00#8, 0x02#8] State.reset (fun t => (lastResponse t, t.osc, t.eOor)) =
      some (some [0x02#8, 0x00#8, 0x00#8], .idle, true) := by decide

/-- O27. -/
theorem test_rdsr_after_cancelled_run :
    after [0x45#8] { State.reset with osc := .stopped, cancel := true, phaseCnt := 2#32 } (fun t => lastResponse t) =
      some (some [0x00#8, 0x06#8, 0x00#8, 0x32#8, 0x00#8, 0x02#8, 0x00#8, 0x00#8, 0x00#8]) := by decide

/-- O28. -/
theorem test_rdsr_after_failed_run :
    after [0x45#8] { State.reset with osc := .failed, eTx := true, phaseCnt := 2#32 } (fun t => lastResponse t) =
      some (some [0x00#8, 0x06#8, 0x00#8, 0x14#8, 0x04#8, 0x02#8, 0x00#8, 0x00#8, 0x00#8]) := by decide

/-- U31. -/
theorem test_illegal_opcode :
    after [0x25#8] State.reset (fun t => (lastResponse t, t.eIll, t.u)) =
      some (some [0xFF#8, 0x00#8, 0x00#8], true, []) := by decide

/-! The loop (43_oscillator.md R198 to R203). -/

/-- O12: the duration is tested before the cancel flag. -/
theorem test_top_duration_first :
    stepped { strobing .top with now := 250000#64, cancel := true } State.osc =
      some (.running (.finish .completed)) := by decide

/-- O11. -/
theorem test_top_cancel :
    stepped { strobing .top with now := 125000#64, cancel := true } State.osc =
      some (.running (.finish .stopped)) := by decide

/-- O2's first write. -/
theorem test_phase_loads_snapshot :
    stepped { strobing .phase with phase := true } (fun t => (t.u, t.phaseCnt, t.now, t.titer, t.osc)) =
      some ([(1, 255#8)], 1#32, 45000#64, 0#64, .running .sleep) := by decide

/-- O9: the second write starts at 62500. -/
theorem test_sleep_to_half :
    stepped { strobing .sleep with now := 45000#64 } (fun t => (t.now, t.osc)) =
      some (62500#64, .running .flip) := by decide

/-- O17: a write longer than HALF leaves no sleep. -/
theorem test_sleep_none_left :
    stepped { strobing .sleep with now := 200000#64 } (fun t => (t.now, t.osc)) =
      some (200000#64, .running .flip) := by decide

/-- O9: the response 00 05 00 03 04 00 00 00. -/
theorem test_final_frame :
    stepped { strobing (.finish .completed) with now := 250000#64, phaseCnt := 4#32, u := [(1, 255#8)] }
      (fun t => (lastResponse t, t.now, t.osc, t.u)) =
      some (some [0x00#8, 0x05#8, 0x00#8, 0x03#8, 0x04#8, 0x00#8, 0x00#8, 0x00#8], 295000#64, .completed, []) := by decide

/-- O18: Failed with cause 1, the safe frame best effort. -/
theorem test_fail_path :
    stepped { strobing (.fail .writeError) with now := 170000#64, phaseCnt := 2#32 }
      (fun t => (lastResponse t, t.now, t.osc, t.eTx)) =
      some (some [0x03#8, 0x01#8, 0x00#8, 0x01#8], 215000#64, .failed, true) := by decide

/-- O11: a cancel request during a write is latched. -/
theorem test_cancel_latched :
    stepped { strobing .phase with now := 62500#64, host := [.wait 37500, .cancel] } (fun t => (t.cancel, t.osc, t.now)) =
      some (true, .running .sleep, 107500#64) := by decide

/-- 30_encoding.md R108: HOST may raise the request after any move of the block, also one of no ticks (HALF 0): it is
latched before the next top and not before this flip. -/
theorem test_cancel_after_a_move :
    stepped { strobing .flip with half := 0#64, host := [.pass, .cancel] }
        (fun t => (t.cancel, t.osc, t.now, t.host)) = some (false, .running .top, 0#64, [.cancel]) ∧
    stepped { strobing .top with half := 0#64, host := [.cancel] }
        (fun t => (t.cancel, t.osc, t.now, t.host)) = some (true, .running .top, 0#64, []) := by decide

/-- 43_oscillator.md R204: a request after the run's last write is dropped, one within it is latched. -/
theorem test_cancel_after_the_last_write :
    stepped { strobing (.finish .stopped) with host := [.pass, .cancel] }
        (fun t => (t.cancel, t.osc, t.now, t.host)) = some (false, .stopped, 45000#64, [.cancel]) ∧
    stepped { strobing (.finish .stopped) with host := [.wait 44999, .cancel] }
        (fun t => (t.cancel, t.osc, t.now, t.host)) = some (true, .stopped, 45000#64, []) := by decide

/-- 43_oscillator.md R204: dropped while not Running. -/
theorem test_cancel_dropped :
    stepped { State.reset with host := [.cancel] } (fun t => (t.cancel, t.respLog)) =
      some (false, []) := by decide

/-- 10_state.md R44, 70_reset_and_hazards.md R260: the reset input. -/
theorem test_reset_input :
    stepped { withView with host := [.reset], now := 9#64, tpOpen := false, eOor := true, txLog := [.close] } id =
      some State.reset := by decide

/-- E9, E10: the length and the ends of a full-universe frame. -/
theorem test_universe_frame :
    (universeFrame [(1, 255#8), (512, 9#8)]).length = 518 ∧
    (universeFrame [(1, 255#8), (512, 9#8)]).take 7 = [0x7E#8, 0x06#8, 0x01#8, 0x02#8, 0x00#8, 0xFF#8, 0x00#8] ∧
    (universeFrame [(1, 255#8), (512, 9#8)]).drop 516 = [0x09#8, 0xE7#8] := by decide +kernel

/-! ### Witnesses: what each statement's hypotheses ask for, met -/

/-- Reset with `hs` for HOST's moves. -/
def withHost (hs : List HostMove) : State := { State.reset with host := hs }

/-- Inside a write that never returns. -/
def hungState : State := { State.reset with hung := true, host := [.packet [0x45#8]] }

/-- A handle released after one frame. -/
def closedRun (pos : LoopPos) : State := { strobing pos with tpOpen := false, txLog := [.close] }

/-- An oscillator at `pos` whose next write is answered `Err`. -/
def failing (pos : LoopPos) : State := { strobing pos with replies := [.answered .err 45000] }

/-- An oscillator at `pos` whose next write is never answered. -/
def silent (pos : LoopPos) : State := { strobing pos with replies := [.never] }

/-- An oscillator at `pos` while HOST lets the block move once and then raises the cancel request. -/
def passing (pos : LoopPos) : State := { strobing pos with half := 0#64, host := [.pass, .cancel] }

/-- O1 just started, five writes of 45000 ticks to come. -/
def idealState : State :=
  { State.reset with
    osc := .running .top, half := 62500#64, dur := 250000#64
    replies := List.replicate 5 (.answered (.ok 518) 45000) }

theorem witness_DecodeOfEncode :
    (Instr.encode []).wellFormed = true ∧ (Instr.setrng 65535#16 [0x8000#16]).wellFormed = true ∧
    (Instr.strobe 0xFFFFFFFF#32 0#32 255#8).wellFormed = true := by decide

theorem witness_EncodeOfDecode :
    decode [0x10#8, 0x00#8, 0x00#8] = .ok (.encode []) ∧ decode [0x45#8] = .ok .rdsr := by decide

theorem witness_PortFree : State.reset.PortFree := ⟨rfl, rfl⟩

theorem witness_UnlistedOpcodeRefused :
    (withHost [.packet []]).PortFree ∧ (withHost [.packet []]).host = [.packet []] ∧
    ∀ op ∈ [0x00#8, 0x0F#8, 0x11#8, 0x1F#8, 0x25#8, 0x27#8, 0x2B#8, 0x2F#8, 0x37#8, 0x3F#8, 0x46#8, 0xFF#8],
      ¬ ListedOpcode op ∧ (withHost [.packet [op]]).PortFree := by
  refine ⟨⟨rfl, rfl⟩, rfl, ?_⟩
  unfold ListedOpcode State.PortFree
  decide

theorem witness_WrongLengthRefused :
    (∀ op ∈ [0x10#8, 0x20#8, 0x24#8, 0x28#8, 0x2A#8, 0x30#8, 0x36#8, 0x40#8, 0x45#8], ListedOpcode op) ∧
    [0x45#8].length = packetLength [0x45#8] ∧ [0x45#8, 0x00#8].length ≠ packetLength [0x45#8, 0x00#8] ∧
    [0x10#8, 0x01#8].length ≠ packetLength [0x10#8, 0x01#8] ∧
    (withHost [.packet [0x45#8, 0x00#8]]).PortFree := by
  unfold ListedOpcode State.PortFree
  decide

theorem witness_FrameLayout :
    ([] : List Byte).length ≤ 512 ∧ (List.replicate 512 0xFF#8 : List Byte).length ≤ 512 := by
  rw [List.length_replicate]
  decide

theorem witness_UniverseFrameLayout : 1 ≤ 1 ∧ 512 ≤ 512 := by decide

theorem witness_ResponseLayout : (Response.mk .ok [3#8]).data.length ≤ 65535 := by decide

theorem witness_ValueClamped :
    (-1#16).toInt < 0 ∧ (0x8000#16).toInt < 0 ∧ 255 < (256#16).toInt ∧ 255 < (0x7FFF#16).toInt ∧
    0 ≤ (0#16).toInt ∧ (255#16).toInt ≤ 255 := by decide

theorem witness_StrobeConversions : 1000000000 ≤ 1000000000 ∧ (1#32) ≠ 0#32 := by decide

theorem witness_StepRunsDecodedCommand :
    (withHost [.packet [0x21#8, 0x01#8, 0x00#8]]).PortFree ∧
    (withHost [.packet [0x21#8, 0x01#8, 0x00#8]]).host = .packet [0x21#8, 0x01#8, 0x00#8] :: [] ∧
    decode [0x21#8, 0x01#8, 0x00#8] = .ok (.getch 1#16) := ⟨⟨rfl, rfl⟩, rfl, by decide⟩

theorem witness_BusyPortHoldsPacket :
    ¬ hungState.PortFree ∧ hungState.host = .packet [0x45#8] :: [] ∧
    ¬ ({ strobing .sleep with host := [.packet [0x45#8]] } : State).PortFree := by
  unfold State.PortFree
  decide

/-- A request at the head, and one that comes at the last tick of an interval and one tick after it. -/
theorem witness_CancelRequestLatched :
    (5 ≤ 5 ∧ 5 < 6) ∧
    (withHost [.cancel]).host = .cancel :: [] ∧
    ({ strobing .top with host := [.cancel, .reset] } : State).host = .cancel :: [.reset] := ⟨by decide, rfl, rfl⟩

theorem witness_ResetInputRestores :
    ({ strobing .sleep with host := [.reset] } : State).host = .reset :: [] ∧
    ({ hungState with host := [.reset, .cancel] } : State).host = .reset :: [.cancel] := ⟨rfl, rfl⟩

theorem witness_QuiescentOnlyCounts :
    State.reset.Quiescent ∧
    ((withHost [.wait 0, .cancel]).PortFree ∧ (withHost [.wait 0, .cancel]).host = .wait 0 :: [.cancel]) ∧
    ((withHost [.pass]).PortFree ∧ (withHost [.pass]).host = .pass :: []) :=
  ⟨⟨⟨rfl, rfl⟩, rfl⟩, ⟨⟨rfl, rfl⟩, rfl⟩, ⟨rfl, rfl⟩, rfl⟩

theorem witness_EncodeCommand :
    (List.replicate 512 0#8 : List Byte).length ≤ 512 ∧ 512 < (List.replicate 513 0#8 : List Byte).length := by
  rw [List.length_replicate, List.length_replicate]
  decide

/-- SETCH, GETCH and the ends of the channel range. -/
theorem witness_SetchCommand :
    (1 ≤ (1#16).toNat ∧ (512#16).toNat ≤ 512) ∧ (0#16).toNat = 0 ∧ 512 < (513#16).toNat := by decide

theorem witness_GetchCommand :
    (1 ≤ (512#16).toNat ∧ (512#16).toNat ≤ 512) ∧ (0#16).toNat = 0 ∧ 512 < (513#16).toNat := by decide

theorem witness_SetThenGetRoundTrip :
    1 ≤ (512#16).toNat ∧ (512#16).toNat ≤ 512 ∧ ∃ t, exec (.setch 512#16 300#16) State.reset = .next t :=
  ⟨by decide, by decide, _, rfl⟩

/-- A range that ends on channel 512, an empty range, one that starts past 512, and one that passes 512. -/
theorem witness_SetrngCommand :
    (1 ≤ (510#16).toNat ∧ (510#16).toNat ≤ 512 ∧ (510#16).toNat + [1#16, 2#16, 3#16].length ≤ 513) ∧
    (1 ≤ (512#16).toNat ∧ (512#16).toNat ≤ 512 ∧ (512#16).toNat + ([] : List Half).length ≤ 513) ∧
    (0#16).toNat = 0 ∧ 512 < (513#16).toNat ∧ 513 < (511#16).toNat + [1#16, 2#16, 3#16].length := by decide

/-- VIEW: the last slot and a view of all 512 channels, a count of 0, and each refusal. -/
theorem witness_ViewCommand :
    ((3#8).toNat < State.reset.views.length ∧ 1 ≤ (1#16).toNat ∧ (1#16).toNat ≤ 512 ∧
      ((1#16).toNat : Int) ≤ 512 - ((512#16).toNat : Int) + 1) ∧
    (512 : Nat) ≤ 512 - (0#16).toNat + 1 ∧
    State.reset.views.length ≤ (4#8).toNat ∧ (0#16).toNat = 0 ∧ 512 < (513#16).toNat ∧
    512 - ((513#16).toNat : Int) + 1 < ((1#16).toNat : Int) := by decide

/-- VSET and VGET: the last offset of slot 0, the first outside it, a slot never built, a slot past the file. -/
theorem witness_VsetCommand :
    (∃ w, withView.views[(0#8).toNat]? = some w ∧ w.valid = true ∧ (5#16).toNat < w.count.toNat) ∧
    (∃ w, withView.views[(0#8).toNat]? = some w ∧ (w.valid = false ∨ w.count.toNat ≤ (6#16).toNat)) ∧
    (∃ w, withView.views[(1#8).toNat]? = some w ∧ (w.valid = false ∨ w.count.toNat ≤ (0#16).toNat)) ∧
    withView.views[(4#8).toNat]? = none :=
  ⟨⟨_, rfl, rfl, by decide⟩, ⟨_, rfl, .inr (by decide)⟩, ⟨_, rfl, .inl rfl⟩, rfl⟩

theorem witness_VgetCommand :
    (∃ w, withView.views[(0#8).toNat]? = some w ∧ w.valid = true ∧ (0#16).toNat < w.count.toNat) ∧
    (∃ w, withView.views[(0#8).toNat]? = some w ∧ (w.valid = false ∨ w.count.toNat ≤ (0xFFFF#16).toNat)) ∧
    (∃ w, withView.views[(3#8).toNat]? = some w ∧ (w.valid = false ∨ w.count.toNat ≤ (0#16).toNat)) ∧
    withView.views[(255#8).toNat]? = none :=
  ⟨⟨_, rfl, rfl, by decide⟩, ⟨_, rfl, .inr (by decide)⟩, ⟨_, rfl, .inl rfl⟩, rfl⟩

theorem witness_ViewsOk : withView.ViewsOk := by
  unfold State.ViewsOk View.Ok
  decide

theorem witness_ViewAccessInRange :
    withView.ViewsOk ∧ withView.viewAccessOk 0#8 0#16 = true ∧ withView.viewAccessOk 0#8 5#16 = true :=
  ⟨witness_ViewsOk, by decide, by decide⟩

theorem witness_TransmitSendsUniverse :
    (answering (.ok 518)).tpOpen = true ∧ (answering (.ok 518)).reply = .answered (.ok 518) 45000 ∧
    (answering (.ok 518)).osc.isRunning = false := ⟨rfl, rfl, rfl⟩

theorem witness_TransmitFails :
    ({ State.reset with tpOpen := false } : State).tpOpen = false ∧
    ((answering .err).tpOpen = true ∧ (answering .err).reply = .answered .err 45000 ∧ TxAnswer.err ≠ .ok 518) ∧
    ((answering (.ok 517)).tpOpen = true ∧ (answering (.ok 517)).reply = .answered (.ok 517) 45000 ∧
      TxAnswer.ok 517 ≠ .ok 518) := ⟨rfl, ⟨rfl, rfl, by decide⟩, rfl, rfl, by decide⟩

theorem witness_UnansweredWriteHangs :
    ((silent .top).tpOpen = true ∧ (silent .top).reply = .never) ∧
    ((silent .phase).hung = false ∧ (silent .phase).HostPassive ∧ (silent .phase).osc = .running .phase ∧
      (silent (.finish .stopped)).osc = .running (.finish .stopped) ∧ (silent (.finish .stopped)).HostPassive ∧
      (silent (.fail .shortWrite)).osc = .running (.fail .shortWrite) ∧ (silent (.fail .shortWrite)).HostPassive) ∧
    hungState.hung = true ∧ hungState.HostPassive ∧ hungState.host.head? ≠ some .reset ∧
    ∃ t, step hungState = .next t :=
  ⟨⟨rfl, rfl⟩, ⟨rfl, State.hostPassive_of_nil rfl, rfl, rfl, State.hostPassive_of_nil rfl, rfl,
    State.hostPassive_of_nil rfl⟩, rfl, ⟨by decide, by decide⟩, by decide, _, rfl⟩

theorem witness_CloseCommand :
    State.reset.tpOpen = true ∧ ({ State.reset with tpOpen := false } : State).tpOpen = false := ⟨rfl, rfl⟩

/-- The ends of the base's range, for every fixture command. -/
theorem witness_ControlCommands :
    (1 ≤ (1#16).toNat ∧ (507#16).toNat ≤ 507) ∧ (0#16).toNat = 0 ∧ 507 < (508#16).toNat := by decide

theorem witness_SetrgbCommand :
    (1 ≤ (507#16).toNat ∧ (507#16).toNat ≤ 507) ∧ (0#16).toNat = 0 ∧ 507 < (508#16).toNat := by decide

theorem witness_ControlIsSetch : 1 ≤ (507#16).toNat ∧ (507#16).toNat ≤ 507 := by decide

theorem witness_StrobeCommand :
    (0 < (1#32).toNat ∧ (1#8).toNat ≤ 1 ∧ State.reset.tickHz ≤ 1000000000) ∧
    (0#32).toNat = 0 ∧ 1 < (2#8).toNat := by decide

theorem witness_StatusRegisterFields :
    State.reset.osc = .idle ∧ (strobing .sleep).osc.isRunning = true ∧
    ({ State.reset with osc := .stopped } : State).osc = .stopped ∧
    ({ State.reset with osc := .completed } : State).osc = .completed ∧
    ({ State.reset with osc := .failed } : State).osc = .failed := ⟨rfl, rfl, rfl, rfl, rfl⟩

/-- HOST passive at every position of the loop: duration elapsed exactly, cancelled, going on. -/
theorem witness_TopOfIteration :
    ((strobing .top).osc = .running .top ∧ (strobing .top).hung = false ∧ (strobing .top).HostPassive) ∧
    ({ strobing .top with now := 250000#64 } : State).dur.toNat ≤ (250000#64 - (strobing .top).t0).toNat ∧
    (249999#64 - (strobing .top).t0).toNat < (strobing .top).dur.toNat ∧
    ({ strobing .top with now := 249999#64, cancel := true } : State).cancel = true ∧
    (strobing .top).cancel = false :=
  ⟨⟨rfl, rfl, State.hostPassive_of_nil rfl⟩, by decide, by decide, rfl, rfl⟩

theorem witness_PhaseTransmission :
    ((strobing .phase).osc = .running .phase ∧ (strobing .phase).hung = false ∧ (strobing .phase).HostPassive ∧
      (strobing .phase).tpOpen = true ∧ (strobing .phase).reply = .answered (.ok 518) 45000) ∧
    ((failing .phase).osc = .running .phase ∧ (failing .phase).hung = false ∧ (failing .phase).HostPassive ∧
      (failing .phase).tpOpen = true ∧ (failing .phase).reply = .answered .err 45000 ∧ TxAnswer.err ≠ .ok 518) ∧
    ((closedRun .phase).osc = .running .phase ∧ (closedRun .phase).hung = false ∧ (closedRun .phase).HostPassive ∧
      (closedRun .phase).tpOpen = false) :=
  ⟨⟨rfl, rfl, State.hostPassive_of_nil rfl, rfl, rfl⟩,
    ⟨rfl, rfl, State.hostPassive_of_nil rfl, rfl, rfl, by decide⟩, rfl, rfl, State.hostPassive_of_nil rfl, rfl⟩

/-- HOST is passive at a pass too, at every position of the loop. -/
theorem witness_HostPassive_pass (pos : LoopPos) :
    (passing pos).osc = .running pos ∧ (passing pos).hung = false ∧ (passing pos).HostPassive :=
  ⟨rfl, rfl, by simp [passing, State.HostPassive]⟩

/-- The last write of a run with a pass of HOST first: the final frame and the fail path. -/
theorem witness_lastWrite_pass :
    ((passing (.finish .stopped)).host = .pass :: [.cancel] ∧
      ∃ t, step (passing (.finish .stopped)) = .next t ∧ t.hung = false) ∧
    ((passing (.fail .closed)).host = .pass :: [.cancel] ∧
      ∃ t, step (passing (.fail .closed)) = .next t ∧ t.hung = false) := ⟨⟨rfl, _, rfl, rfl⟩, rfl, _, rfl, rfl⟩

theorem witness_SleepIsExact :
    (strobing .sleep).osc = .running .sleep ∧ (strobing .sleep).hung = false ∧ (strobing .sleep).HostPassive ∧
    ((strobing .sleep).now - (strobing .sleep).titer).toNat ≤ (strobing .sleep).half.toNat ∧
    (strobing .sleep).half.toNat <
      (({ strobing .sleep with now := 62501#64 } : State).now - (strobing .sleep).titer).toNat :=
  ⟨rfl, rfl, State.hostPassive_of_nil rfl, by decide, by decide⟩

theorem witness_FlipInvertsPhase :
    (strobing .flip).osc = .running .flip ∧ (strobing .flip).hung = false ∧ (strobing .flip).HostPassive :=
  ⟨rfl, rfl, State.hostPassive_of_nil rfl⟩

theorem witness_FinalFrame :
    ((strobing (.finish .stopped)).osc = .running (.finish .stopped) ∧ (strobing (.finish .stopped)).hung = false ∧
      (strobing (.finish .stopped)).HostPassive ∧ (strobing (.finish .stopped)).tpOpen = true ∧
      (strobing (.finish .stopped)).reply = .answered (.ok 518) 45000) ∧
    ((failing (.finish .completed)).HostPassive ∧ (failing (.finish .completed)).tpOpen = true ∧
      (failing (.finish .completed)).reply = .answered .err 45000 ∧ TxAnswer.err ≠ .ok 518) ∧
    ((closedRun (.finish .completed)).HostPassive ∧ (closedRun (.finish .completed)).tpOpen = false) :=
  ⟨⟨rfl, rfl, State.hostPassive_of_nil rfl, rfl, rfl⟩, ⟨State.hostPassive_of_nil rfl, rfl, rfl, by decide⟩,
    State.hostPassive_of_nil rfl, rfl⟩

theorem witness_FailPath :
    ((failing (.fail .shortWrite)).osc = .running (.fail .shortWrite) ∧ (failing (.fail .shortWrite)).hung = false ∧
      (failing (.fail .shortWrite)).HostPassive ∧ (failing (.fail .shortWrite)).tpOpen = true ∧
      (failing (.fail .shortWrite)).reply = .answered .err 45000) ∧
    ((closedRun (.fail .closed)).HostPassive ∧ (closedRun (.fail .closed)).tpOpen = false) :=
  ⟨⟨rfl, rfl, State.hostPassive_of_nil rfl, rfl, rfl⟩, State.hostPassive_of_nil rfl, rfl⟩

/-- A run that ends as Stopped, and one that ends as Failed. -/
theorem witness_RunEndsOnSafe :
    ((strobing (.finish .stopped)).osc.isRunning = true ∧ (strobing (.finish .stopped)).host.head? ≠ some .reset ∧
      ∃ t, step (strobing (.finish .stopped)) = .next t ∧ t.osc.isRunning = false) ∧
    ((failing (.fail .writeError)).osc.isRunning = true ∧ (failing (.fail .writeError)).host.head? ≠ some .reset ∧
      ∃ t, step (failing (.fail .writeError)) = .next t ∧ t.osc.isRunning = false) :=
  ⟨⟨rfl, by decide, _, rfl, rfl⟩, rfl, by decide, _, rfl, rfl⟩

theorem witness_FailedWriteNeverReportsOk :
    (∃ t, exec .transmit (answering (.ok 518)) = .next t ∧
      t.respLog = (answering (.ok 518)).respLog ++ [⟨.ok, []⟩]) ∧
    (∃ t, exec .transmit (answering .err) = .next t ∧
      t.txLog = (answering .err).txLog ++ [.write (universeFrame []) .err] ∧ TxAnswer.err ≠ .ok 518) ∧
    ((strobing .phase).osc = .running .phase ∧ (strobing .phase).host.head? ≠ some .reset ∧
      ∃ t, step (strobing .phase) = .next t ∧ t.phaseCnt ≠ (strobing .phase).phaseCnt) ∧
    ((failing .phase).osc = .running .phase ∧ (failing .phase).host.head? ≠ some .reset ∧
      ∃ t, step (failing .phase) = .next t ∧
        t.txLog = (failing .phase).txLog ++ [.write (universeFrame []) .err]) ∧
    ((strobing (.fail .writeError)).osc = .running (.fail .writeError) ∧
      (strobing (.fail .writeError)).host.head? ≠ some .reset ∧ ∃ t, step (strobing (.fail .writeError)) = .next t) ∧
    ((strobing (.finish .stopped)).host.head? ≠ some .reset ∧ ∃ t d, step (strobing (.finish .stopped)) = .next t ∧
      t.respLog = (strobing (.finish .stopped)).respLog ++ [⟨.ok, d⟩]) ∧
    ((failing (.finish .completed)).host.head? ≠ some .reset ∧ ∃ t, step (failing (.finish .completed)) = .next t ∧
      t.txLog = (failing (.finish .completed)).txLog ++ [.write (universeFrame []) .err]) :=
  ⟨⟨_, rfl, rfl⟩, ⟨_, rfl, rfl, by decide⟩, ⟨rfl, by decide, _, rfl, by decide⟩, ⟨rfl, by decide, _, rfl, rfl⟩,
    ⟨rfl, by decide, _, rfl⟩, ⟨by decide, _, _, rfl, rfl⟩, by decide, _, rfl, rfl⟩

theorem witness_PhasesAlternate :
    ((1#32).toNat ≠ 0 ∧ (1#8).toNat ≤ 1 ∧ ∃ t, exec (.strobe 1#32 0#32 1#8) State.reset = .next t) ∧
    ((strobing .phase).osc.isRunning = true ∧ (strobing .phase).host.head? ≠ some .reset ∧
      ∃ t, step (strobing .phase) = .next t) := ⟨⟨by decide, by decide, _, rfl⟩, rfl, by decide, _, rfl⟩

theorem witness_CancelReadOnlyAtTop :
    (strobing .sleep).osc = .running .sleep ∧ LoopPos.sleep ≠ .top ∧ (strobing .sleep).host.head? ≠ some .reset ∧
    ∃ t, step (strobing .sleep) = .next t := ⟨rfl, by decide, by decide, _, rfl⟩

theorem witness_IdealStart : idealState.IdealStart :=
  ⟨rfl, rfl, rfl, rfl, rfl, rfl, by decide, by decide, by decide⟩

theorem witness_IdealIterationStarts :
    idealState.IdealStart ∧ 4 ≤ idealState.idealCount ∧ GoodReplies idealState.half.toNat 4 idealState.replies ∧
    0 ≤ idealState.idealCount ∧ GoodReplies idealState.half.toNat 0 [] :=
  ⟨witness_IdealStart, by decide, ⟨rfl, by decide, rfl, by decide, rfl, by decide, rfl, by decide, trivial⟩,
    by decide, trivial⟩

theorem witness_IdealRunCompletes :
    idealState.IdealStart ∧ GoodReplies idealState.half.toNat idealState.idealCount idealState.replies ∧
    idealState.replies.drop idealState.idealCount = .answered (.ok 518) 45000 :: [] := by
  have e : idealState.idealCount = 4 := by decide
  refine ⟨witness_IdealStart, ?_, ?_⟩
  · rw [e]
    exact witness_IdealIterationStarts.2.2.1
  · rw [e]
    rfl

theorem witness_StepKeepsInvariant : State.reset.Inv ∧ ∃ t, step State.reset = .next t := by
  refine ⟨⟨⟨rfl, rfl, rfl, rfl⟩, ?_, ⟨[], nofun, rfl⟩, nofun⟩, _, rfl⟩
  unfold State.ViewsOk View.Ok
  decide

/-- Every line of the table of 60_exceptions.md R232 on both sides, at its boundary. -/
theorem witness_OutOfRangeTable :
    OutOfRange withView (.setch 0#16 1#16) ∧ ¬ OutOfRange withView (.setch 1#16 1#16) ∧
    OutOfRange withView (.getch 513#16) ∧ ¬ OutOfRange withView (.getch 512#16) ∧
    OutOfRange withView (.setrng 513#16 []) ∧ ¬ OutOfRange withView (.setrng 512#16 [9#16]) ∧
    OutOfRange withView (.view 4#8 1#16 6#16) ∧ ¬ OutOfRange withView (.view 3#8 507#16 6#16) ∧
    OutOfRange withView (.vset 1#8 0#16 0#16) ∧ ¬ OutOfRange withView (.vset 0#8 5#16 0#16) ∧
    OutOfRange withView (.vget 0#8 6#16) ∧ ¬ OutOfRange withView (.vget 0#8 5#16) ∧
    OutOfRange withView (.dimmer 508#16 1#16) ∧ ¬ OutOfRange withView (.program 507#16 1#16) ∧
    OutOfRange withView (.setrgb 0#16 1#16 1#16 1#16) ∧ ¬ OutOfRange withView (.setrgb 1#16 1#16 1#16 1#16) ∧
    OutOfRange withView (.strobe 0#32 1#32 0#8) ∧ ¬ OutOfRange withView (.strobe 1#32 1#32 1#8) := by
  simp only [OutOfRange]
  decide

theorem witness_OnlyStrobeStartsRun :
    ∃ t, exec (.strobe 8000#32 250#32 0#8) State.reset = .next t ∧ t.osc ≠ State.reset.osc := ⟨_, rfl, by decide⟩

/-- A step that leaves OSC_STATE, one that starts a run, one that ends it. -/
theorem witness_OscillatorTransitions :
    (State.reset.host.head? ≠ some .reset ∧ ∃ t, step State.reset = .next t) ∧
    ((withHost [.packet (encode (.strobe 8000#32 250#32 0#8))]).host.head? ≠ some .reset ∧
      ∃ t, step (withHost [.packet (encode (.strobe 8000#32 250#32 0#8))]) = .next t) ∧
    ((strobing (.finish .completed)).host.head? ≠ some .reset ∧ ∃ t, step (strobing (.finish .completed)) = .next t) :=
  ⟨⟨by decide, _, rfl⟩, ⟨by decide, _, rfl⟩, by decide, _, rfl⟩

theorem witness_StickyBitsStay :
    ({ State.reset with eEnc := true, eOor := true, eTx := true, eIll := true } : State).host.head? ≠ some .reset ∧
    ∃ t, step { State.reset with eEnc := true, eOor := true, eTx := true, eIll := true } = .next t :=
  ⟨by decide, _, rfl⟩

theorem witness_SnapshotsWrittenOnlyByArming :
    (∃ t, exec .armon withView = .next t ∧ t.snapOn ≠ withView.snapOn) ∧
    (∃ t, exec .armoff withView = .next t ∧ t.snapOff ≠ withView.snapOff) ∧
    (∃ t, exec .armsafe withView = .next t ∧ t.snapSafe ≠ withView.snapSafe) ∧
    ((strobing .phase).osc.isRunning = true ∧ (strobing .phase).host.head? ≠ some .reset ∧
      ∃ t, step (strobing .phase) = .next t) :=
  ⟨⟨_, rfl, by decide⟩, ⟨_, rfl, by decide⟩, ⟨_, rfl, by decide⟩, rfl, by decide, _, rfl⟩

theorem witness_OnlyCloseReleasesHandle :
    (∃ t, exec .close State.reset = .next t ∧ t.tpOpen ≠ State.reset.tpOpen) ∧
    ((strobing .phase).osc.isRunning = true ∧ (strobing .phase).host.head? ≠ some .reset ∧
      ∃ t, step (strobing .phase) = .next t) := ⟨⟨_, rfl, by decide⟩, rfl, by decide, _, rfl⟩

theorem witness_ParametersConstant : ∃ t, step (withHost [.reset]) = .next t := ⟨_, rfl⟩

theorem witness_CommandsTakeNoTime :
    Instr.rdsr ≠ .transmit ∧ ∃ t, exec .rdsr (answering .err) = .next t := ⟨by decide, _, rfl⟩

theorem witness_TransportMutatesNothing :
    (answering (.ok 518)).osc.isRunning = false ∧ (∃ t, exec .transmit (answering (.ok 518)) = .next t) ∧
    ∃ t', exec .transmit { answering (.ok 518) with replies := [.never], drawn := 3 } = .next t' :=
  ⟨rfl, ⟨_, rfl⟩, _, rfl⟩

end Sys2Proof.Tests
end

section
/-! PROOFS. The parameters TICK_HZ and NVIEW, kept by every step (00_scope.md R8, 10_state.md R45). -/

namespace Sys2Proof.Machine

/-- The parameters as the state holds them (log entry 4); NVIEW is the number of view slots. -/
def State.parameters (s : State) : Config := { tickHz := s.tickHz, nview := s.nview }

theorem State.parameters_eq_iff {s t : State} :
    t.parameters = s.parameters ↔ t.tickHz = s.tickHz ∧ t.views.length = s.views.length := by
  simp [State.parameters, State.nview]

theorem State.parameters_congr {s t : State} (hz : t.tickHz = s.tickHz) (hv : t.views = s.views) :
    t.parameters = s.parameters :=
  State.parameters_eq_iff.2 ⟨hz, congrArg List.length hv⟩

/-! ### The shared operations -/

@[simp] theorem State.resetWith_parameters (c : Config) : (State.resetWith c).parameters = c := by
  simp [State.parameters, State.nview, State.resetWith]

@[simp] theorem State.resetInput_parameters (s : State) : s.resetInput.parameters = s.parameters :=
  State.resetWith_parameters s.parameters

@[simp] theorem State.raise_parameters (e : Status) (info : List Byte) (s : State) :
    (s.raise e info).parameters = s.parameters :=
  State.parameters_congr (State.setSticky_tickHz s e) (State.setSticky_views s e)

@[simp] theorem State.release_parameters (s : State) : s.release.parameters = s.parameters := by
  unfold State.release
  split <;> rfl

@[simp] theorem State.buildView_parameters (v : Byte) (start count : Half) (s : State) :
    (s.buildView v start count).parameters = s.parameters :=
  State.parameters_eq_iff.2 ⟨rfl, List.length_set⟩

@[simp] theorem State.transmitCore_parameters (s : State) : s.transmitCore.2.parameters = s.parameters :=
  State.parameters_congr s.transmitCore_tickHz s.transmitCore_views

/-! ### What is done with the result of a transmission -/

@[simp] theorem transmitDone_parameters : ∀ p : TxResult × State, (transmitDone p).parameters = p.2.parameters
  | (.success, _) => rfl
  | (.fail _, _) => rfl
  | (.never, _) => rfl

@[simp] theorem phaseDone_parameters : ∀ p : TxResult × State, (phaseDone p).parameters = p.2.parameters
  | (.success, _) => rfl
  | (.fail _, _) => rfl
  | (.never, _) => rfl

@[simp] theorem finishDone_parameters (e : RunEnd) :
    ∀ p : TxResult × State, (finishDone e p).parameters = p.2.parameters
  | (.success, _) => rfl
  | (.fail _, _) => rfl
  | (.never, _) => rfl

@[simp] theorem failDone_parameters (c : TxCause) :
    ∀ p : TxResult × State, (failDone c p).parameters = p.2.parameters
  | (.success, _) => rfl
  | (.fail _, _) => rfl
  | (.never, _) => rfl

/-! ### The loop, the commands and the step -/

@[simp] theorem State.topStep_parameters (s : State) : s.topStep.parameters = s.parameters := by
  unfold State.topStep
  split
  · rfl
  · split <;> rfl

@[simp] theorem State.loopStep_parameters (pos : LoopPos) (s : State) :
    (s.loopStep pos).parameters = s.parameters := by
  cases pos with
  | top => exact s.topStep_parameters
  | phase => exact (phaseDone_parameters _).trans s.loadPhase.transmitCore_parameters
  | sleep => rfl
  | flip => rfl
  | finish e => exact (finishDone_parameters e _).trans s.loadSafe.transmitCore_parameters
  | fail c => exact (failDone_parameters c _).trans s.loadSafe.transmitCore_parameters

/-- A command keeps the parameters: VIEW alone writes the view file, and it replaces a slot in place. -/
theorem exec_parameters {i : Instr} {s t : State} (h : exec i s = .next t) : t.parameters = s.parameters := by
  rcases exec_cases h with ⟨rfl, -⟩ | ⟨rfl, -⟩ | ⟨d, rfl, -⟩ | ⟨c, vs, rfl, -⟩ | ⟨v, c, n, -, -, rfl, -⟩ |
    ⟨-, rfl⟩ | ⟨-, rfl⟩ | ⟨-, rfl⟩ | ⟨-, rfl⟩ | ⟨-, rfl⟩ | ⟨-, rfl⟩ | ⟨f, d, p, -, -, -, rfl⟩
  · rfl
  · rfl
  · rfl
  · rfl
  · exact s.buildView_parameters v c n
  · exact (transmitDone_parameters _).trans s.transmitCore_parameters
  · exact s.release_parameters
  · rfl
  · rfl
  · rfl
  · rfl
  · rfl

theorem step_parameters {s t : State} (h : step s = .next t) : t.parameters = s.parameters := by
  rcases step_cases h with ⟨hs, -, rfl⟩ | ⟨hs, -, rfl⟩ | ⟨-, -, rfl⟩ | ⟨-, -, pos, -, rfl⟩ | ⟨-, -, rfl⟩ |
    ⟨-, n, hs, -, rfl⟩ | ⟨-, hs, -, rfl⟩ | ⟨-, bs, hs, i, -, -, he⟩ | ⟨-, bs, hs, e, -, -, rfl⟩
  · exact State.resetInput_parameters { s with host := hs }
  · rfl
  · rfl
  · exact s.loopStep_parameters pos
  · rfl
  · rfl
  · rfl
  · exact (exec_parameters he).trans rfl
  · rfl

/-- Settles O58: VIEW and the reset input are the only writers of the view file, and both keep its length. -/
theorem parametersConstant : Obligations.ParametersConstant :=
  fun _ _ h => State.parameters_eq_iff.1 (step_parameters h)

end Sys2Proof.Machine
end

section
/-! PROOFS. What a step does to the files, the view slots, the handle, the sticky bits and the logs: the frame
`State.Keeps`, which every step meets but a reset, a VIEW, a CLOSE and an arming command (10_state.md R21, R25, R26, R28,
R31), and the machine's invariant, which every step keeps. -/

namespace Sys2Proof.Machine

/-- The state with the registers of the oscillator, the time base and the environment at rest: what is left are the
files, the view slots, the handle, the sticky bits and the two logs. -/
def State.contents (s : State) : State :=
  { s with
    now := 0#64, osc := .idle, phase := false, cancel := false
    half := 0#64, dur := 0#64, t0 := 0#64, titer := 0#64, phaseCnt := 0#32
    hung := false, host := [], replies := [], drawn := 0 }

/-- The frame of a step that arms no snapshot, builds no view slot and does not release the handle. The universe stays
canonical, `tx_log` grows by full-universe frames and only before the release of the handle, `resp_log` by responses in their
form. -/
structure State.Keeps (s t : State) : Prop where
  snapOn : t.snapOn = s.snapOn
  snapOff : t.snapOff = s.snapOff
  snapSafe : t.snapSafe = s.snapSafe
  views : t.views = s.views
  tpOpen : t.tpOpen = s.tpOpen
  sticky : StickyKept s t
  uWf : s.FilesWf → s.ViewsOk → t.u.wf = true
  txLog : ∃ ws : List TxEvent, (∀ e ∈ ws, e.IsFrame) ∧ (s.tpOpen = false → ws = []) ∧ t.txLog = s.txLog ++ ws
  respLog : ∃ rs : List Response, (∀ r ∈ rs, r.Ok) ∧ t.respLog = s.respLog ++ rs

/-! ### Sticky bits -/

theorem StickyKept.refl (s : State) : StickyKept s s := ⟨id, id, id, id⟩

theorem StickyKept.trans {s t r : State} : StickyKept s t → StickyKept t r → StickyKept s r
  | ⟨enc, oor, tx, ill⟩, ⟨enc', oor', tx', ill'⟩ => ⟨enc' ∘ enc, oor' ∘ oor, tx' ∘ tx, ill' ∘ ill⟩

theorem State.setSticky_stickyKept (e : Status) (s : State) : StickyKept s (s.setSticky e) := by
  simp +contextual [StickyKept]

/-! ### The frame of each shared operation -/

theorem State.Keeps.of_contents_eq {s t : State} (h : t.contents = s.contents) : s.Keeps t where
  snapOn := (congrArg State.snapOn h :)
  snapOff := (congrArg State.snapOff h :)
  snapSafe := (congrArg State.snapSafe h :)
  views := (congrArg State.views h :)
  tpOpen := (congrArg State.tpOpen h :)
  sticky := ⟨(congrArg State.eEnc h).trans, (congrArg State.eOor h).trans, (congrArg State.eTx h).trans,
    (congrArg State.eIll h).trans⟩
  uWf hf _ := (congrArg (Memory.wf ∘ State.u) h).trans hf.1
  txLog := ⟨[], nofun, fun _ => rfl, (congrArg State.txLog h).trans (List.append_nil _).symm⟩
  respLog := ⟨[], nofun, (congrArg State.respLog h).trans (List.append_nil _).symm⟩

theorem State.Keeps.setOsc (s : State) (o : OscState) : s.Keeps { s with osc := o } := .of_contents_eq rfl

theorem State.Keeps.setHost (s : State) (hs : List HostMove) : s.Keeps { s with host := hs } := .of_contents_eq rfl

theorem State.Keeps.filesWf {s t : State} (k : s.Keeps t) (hf : s.FilesWf) (hv : s.ViewsOk) : t.FilesWf := by
  have hu := k.uWf hf hv
  obtain ⟨-, hOn, hOff, hSafe⟩ := hf
  exact ⟨hu, k.snapOn ▸ hOn, k.snapOff ▸ hOff, k.snapSafe ▸ hSafe⟩

theorem State.Keeps.viewsOk {s t : State} (k : s.Keeps t) (hv : s.ViewsOk) : t.ViewsOk := by
  unfold State.ViewsOk
  rwa [k.views]

theorem State.Keeps.trans {s t r : State} (k : s.Keeps t) (k' : t.Keeps r) : s.Keeps r where
  snapOn := k'.snapOn.trans k.snapOn
  snapOff := k'.snapOff.trans k.snapOff
  snapSafe := k'.snapSafe.trans k.snapSafe
  views := k'.views.trans k.views
  tpOpen := k'.tpOpen.trans k.tpOpen
  sticky := k.sticky.trans k'.sticky
  uWf hf hv := k'.uWf (k.filesWf hf hv) (k.viewsOk hv)
  txLog := by
    obtain ⟨ws, hws, hclosed, e⟩ := k.txLog
    obtain ⟨ws', hws', hclosed', e'⟩ := k'.txLog
    refine ⟨ws ++ ws', fun x hx => (List.mem_append.1 hx).elim (hws x) (hws' x), fun ho => ?_, ?_⟩
    · rw [hclosed ho, hclosed' (k.tpOpen.trans ho), List.append_nil]
    · rw [e', e, List.append_assoc]
  respLog := by
    obtain ⟨rs, hrs, e⟩ := k.respLog
    obtain ⟨rs', hrs', e'⟩ := k'.respLog
    exact ⟨rs ++ rs', fun x hx => (List.mem_append.1 hx).elim (hrs x) (hrs' x), by rw [e', e, List.append_assoc]⟩

theorem State.Keeps.setUniverse {s : State} {m : Memory} (h : s.FilesWf → s.ViewsOk → m.wf = true) :
    s.Keeps { s with u := m } :=
  { State.Keeps.of_contents_eq (rfl : s.contents = s.contents) with uWf := h }

theorem State.Keeps.setSticky (e : Status) (s : State) : s.Keeps (s.setSticky e) where
  snapOn := s.setSticky_snapOn e
  snapOff := s.setSticky_snapOff e
  snapSafe := s.setSticky_snapSafe e
  views := s.setSticky_views e
  tpOpen := s.setSticky_tpOpen e
  sticky := s.setSticky_stickyKept e
  uWf hf _ := (congrArg Memory.wf (s.setSticky_u e)).trans hf.1
  txLog := ⟨[], nofun, fun _ => rfl, by simp⟩
  respLog := ⟨[], nofun, by simp⟩

theorem State.Keeps.respond (s : State) {st : Status} {d : List Byte} (h : Response.Ok ⟨st, d⟩) :
    s.Keeps (s.respond st d) :=
  { State.Keeps.of_contents_eq (rfl : s.contents = s.contents) with
    respLog := ⟨[⟨st, d⟩], by simpa using h, rfl⟩ }

theorem State.Keeps.respondOk (s : State) (d : List Byte) : s.Keeps (s.respond .ok d) :=
  State.Keeps.respond s (st := .ok) trivial

theorem State.Keeps.raise (s : State) (e : Status) (info : List Byte) (h : Response.Ok ⟨e, info⟩) :
    s.Keeps (s.raise e info) :=
  (State.Keeps.setSticky e s).trans (State.Keeps.respond _ h)

theorem State.Keeps.logWrite {s : State} (ho : s.tpOpen = true) (m : Memory) (a : TxAnswer) :
    s.Keeps (s.logTx (.write (universeFrame m) a)) :=
  { State.Keeps.of_contents_eq (rfl : s.contents = s.contents) with
    txLog := ⟨[.write (universeFrame m) a], by simpa using universeFrame_isFrame m a, by simp [ho], rfl⟩ }

theorem State.dropReply_contents (s : State) : s.dropReply.contents = s.contents := by
  rw [State.dropReply_eq]
  rfl

theorem State.transmitCore_keeps (s : State) : s.Keeps s.transmitCore.2 := by
  rcases s.transmitCore_cases with ⟨-, h⟩ | ⟨ho, a, d, -, h⟩ | ⟨-, -, h⟩ <;> rw [h]
  · exact .of_contents_eq rfl
  · have written : s.Keeps (s.dropReply.elapse d) := .of_contents_eq s.dropReply_contents
    exact written.trans (.logWrite (written.tpOpen.trans ho) s.u a)
  · exact .of_contents_eq s.dropReply_contents

/-! ### What is done with the result of a transmission -/

theorem TxCause.transmitError_ok (c : TxCause) : Response.Ok ⟨.transmitError, [c.byte]⟩ := by
  cases c <;> simp [Response.Ok, TxCause.byte]

theorem transmitDone_keeps : ∀ p : TxResult × State, p.2.Keeps (transmitDone p)
  | (.success, t) => .respondOk t []
  | (.fail c, t) => .raise t _ _ c.transmitError_ok
  | (.never, _) => .of_contents_eq rfl

theorem phaseDone_keeps : ∀ p : TxResult × State, p.2.Keeps (phaseDone p)
  | (.success, _) => .of_contents_eq rfl
  | (.fail _, _) => .of_contents_eq rfl
  | (.never, _) => .of_contents_eq rfl

/-- The end of a run: OSC_STATE moves, then the failure is raised. -/
theorem State.Keeps.failRun (t : State) (c : TxCause) :
    t.Keeps (State.raise .transmitError [c.byte] { t with osc := .failed }) :=
  (State.Keeps.setOsc t .failed).trans (.raise _ _ _ c.transmitError_ok)

theorem finishDone_keeps (e : RunEnd) : ∀ p : TxResult × State, p.2.Keeps (finishDone e p)
  | (.success, t) => (State.Keeps.setOsc t e.osc).trans (.respondOk _ _)
  | (.fail c, t) => .failRun t c
  | (.never, _) => .of_contents_eq rfl

theorem failDone_keeps (c : TxCause) : ∀ p : TxResult × State, p.2.Keeps (failDone c p)
  | (.success, t) => .failRun t c
  | (.fail _, t) => .failRun t c
  | (.never, t) => .setSticky .transmitError t

/-! ### The loop of a run -/

theorem State.loadPhase_keeps (s : State) : s.Keeps s.loadPhase := by
  have titer : s.Keeps { s with titer := s.now } := .of_contents_eq rfl
  refine titer.trans (.setUniverse fun ⟨_, hOn, hOff, _⟩ _ => ?_)
  unfold State.phaseSnap
  split
  · exact hOn
  · exact hOff

theorem State.loadSafe_keeps (s : State) : s.Keeps s.loadSafe :=
  .setUniverse fun ⟨_, _, _, hSafe⟩ _ => hSafe

theorem State.topStep_keeps (s : State) : s.Keeps s.topStep := by
  unfold State.topStep
  split
  · exact .of_contents_eq rfl
  · split <;> exact .of_contents_eq rfl

/-- A step of a run arms nothing, builds nothing, releases nothing and clears no sticky bit. -/
theorem State.loopStep_keeps (pos : LoopPos) (s : State) : s.Keeps (s.loopStep pos) := by
  cases pos with
  | top => exact s.topStep_keeps
  | phase => exact s.loadPhase_keeps.trans (s.loadPhase.transmitCore_keeps.trans (phaseDone_keeps _))
  | sleep => exact .of_contents_eq rfl
  | flip => exact .of_contents_eq rfl
  | finish e => exact s.loadSafe_keeps.trans (s.loadSafe.transmitCore_keeps.trans (finishDone_keeps e _))
  | fail c => exact s.loadSafe_keeps.trans (s.loadSafe.transmitCore_keeps.trans (failDone_keeps c _))

/-! ### The commands and the step -/

/-- A command meets the frame, or it is one of the six that write a slot, the handle or a snapshot. -/
theorem exec_keeps {i : Instr} {s t : State} (h : exec i s = .next t) :
    s.Keeps t ∨
    (∃ v c n, i = .view v c n ∧ viewOk c n = true ∧ t = (s.buildView v c n).respond .ok []) ∨
    (i = .close ∧ t = s.release.respond .ok []) ∨
    (i = .armon ∧ t = State.respond .ok [] { s with snapOn := s.u }) ∨
    (i = .armoff ∧ t = State.respond .ok [] { s with snapOff := s.u }) ∨
    (i = .armsafe ∧ t = State.respond .ok [] { s with snapSafe := s.u }) ∨
    (i = .clrsafe ∧ t = State.respond .ok [] { s with snapSafe := [] }) := by
  rcases exec_cases h with ⟨rfl, -⟩ | ⟨rfl, -⟩ | ⟨d, rfl, -⟩ | ⟨c, vs, rfl, -, hr⟩ | ⟨v, c, n, hi, hok, ht, -⟩ |
    ⟨-, rfl⟩ | hclose | harm | harm | harm | hclr | ⟨f, d, p, -, -, -, rfl⟩
  · exact .inl (.raise s .outOfRangeError [] rfl)
  · exact .inl (.raise s .encodingError [] rfl)
  · exact .inl (.respondOk s d)
  · have stored : s.Keeps { s with u := s.u.writeAll c vs } :=
      .setUniverse fun hf hv => Memory.wf_writeAll vs hf.1 (hr hv).1 (hr hv).2
    exact .inl (stored.trans (.respondOk _ []))
  · exact .inr (.inl ⟨v, c, n, hi, hok, ht⟩)
  · exact .inl (s.transmitCore_keeps.trans (transmitDone_keeps _))
  · exact .inr (.inr (.inl hclose))
  · exact .inr (.inr (.inr (.inl harm)))
  · exact .inr (.inr (.inr (.inr (.inl harm))))
  · exact .inr (.inr (.inr (.inr (.inr (.inl harm)))))
  · exact .inr (.inr (.inr (.inr (.inr (.inr hclr)))))
  · exact .inl (.of_contents_eq rfl)

/-- A step meets the frame, or it is a reset, or it executes a command at a free port. -/
theorem step_keeps {s t : State} (h : step s = .next t) :
    s.Keeps t ∨
    (∃ hs, s.host = .reset :: hs ∧ t = State.resetInput { s with host := hs }) ∨
    (s.osc.isRunning = false ∧ ∃ i hs, exec i { s with host := hs } = .next t) := by
  rcases step_cases h with hreset | ⟨hs, -, rfl⟩ | ⟨-, -, rfl⟩ | ⟨-, -, pos, -, rfl⟩ | ⟨-, -, rfl⟩ |
    ⟨-, n, hs, -, rfl⟩ | ⟨-, hs, -, rfl⟩ | ⟨⟨-, hrun⟩, bs, hs, i, -, -, he⟩ | ⟨-, bs, hs, e, -, -, rfl⟩
  · exact .inr (.inl hreset)
  · exact .inl (.of_contents_eq rfl)
  · exact .inl (.of_contents_eq rfl)
  · exact .inl ((s.loopStep_keeps pos).trans (.of_contents_eq rfl))
  · exact .inl (.of_contents_eq rfl)
  · exact .inl (.of_contents_eq rfl)
  · exact .inl (.of_contents_eq rfl)
  · exact .inr (.inr ⟨hrun, i, hs, he⟩)
  · exact .inl ((State.Keeps.setHost s hs).trans (.raise _ .illegalCommand [] rfl))

/-- A step of a run that is no reset meets the frame: the port is busy, so no command is executed. -/
theorem step_keeps_of_running {s t : State} (hrun : s.osc.isRunning = true) (hr : s.host.head? ≠ some .reset)
    (h : step s = .next t) : s.Keeps t := by
  rcases step_keeps h with k | ⟨hs, hhost, -⟩ | ⟨hidle, -⟩
  · exact k
  · simp [hhost] at hr
  · simp [hrun] at hidle

/-! ### The invariant -/

theorem State.Keeps.inv {s t : State} (k : s.Keeps t) (hs : s.Inv) : t.Inv where
  files := k.filesWf hs.files hs.views
  views := k.viewsOk hs.views
  txLog := by
    obtain ⟨ws, hws, e⟩ := hs.txLog
    obtain ⟨ws', hws', hclosed, e'⟩ := k.txLog
    refine ⟨ws ++ ws', fun x hx => (List.mem_append.1 hx).elim (hws x) (hws' x), ?_⟩
    rw [e', e, k.tpOpen]
    cases ho : s.tpOpen with
    | true => simp
    | false => simp [hclosed ho]
  respLog := by
    obtain ⟨rs, hrs, e⟩ := k.respLog
    intro r hr
    rw [e] at hr
    exact (List.mem_append.1 hr).elim (hs.respLog r) (hrs r)

theorem State.Inv.respond_ok {s : State} (hs : s.Inv) (d : List Byte) : (s.respond .ok d).Inv :=
  (State.Keeps.respondOk s d).inv hs

theorem View.empty_ok : View.empty.Ok := nofun

theorem State.resetWith_inv (c : Config) : (State.resetWith c).Inv where
  files := ⟨Memory.wf_nil, Memory.wf_nil, Memory.wf_nil, Memory.wf_nil⟩
  views _ hw := List.eq_of_mem_replicate hw ▸ View.empty_ok
  txLog := ⟨[], nofun, rfl⟩
  respLog := nofun

theorem State.resetInput_inv (s : State) : s.resetInput.Inv :=
  have same : (State.resetWith s.parameters).Keeps s.resetInput := .of_contents_eq rfl
  same.inv (State.resetWith_inv s.parameters)

/-- The checked operands of VIEW fit the 10 bits of a slot, so the slot keeps the bound they were checked against. -/
theorem builtView_ok {c n : Half} (h : viewOk c n = true) :
    View.Ok { start := c.setWidth 10, count := n.setWidth 10, valid := true } := by
  obtain ⟨h1, h2, h3⟩ := (viewOk_iff c n).1 h
  intro _
  simp only [BitVec.toNat_setWidth]
  omega

theorem State.Inv.buildView {s : State} (hs : s.Inv) (v : Byte) {c n : Half} (h : viewOk c n = true) :
    (s.buildView v c n).Inv :=
  { hs with
    views := fun w hw => (List.mem_or_eq_of_mem_set hw).elim (hs.views w) fun e => e ▸ builtView_ok h }

theorem State.Inv.release {s : State} (hs : s.Inv) : s.release.Inv := by
  unfold State.release
  split
  · next ho =>
    obtain ⟨ws, hws, e⟩ := hs.txLog
    exact { hs with txLog := ⟨ws, hws, by simp [State.logTx, e, ho]⟩ }
  · exact hs

theorem State.Inv.setSnaps {s : State} (hs : s.Inv) {on off safe : Memory} (hOn : on.wf = true) (hOff : off.wf = true)
    (hSafe : safe.wf = true) : State.Inv { s with snapOn := on, snapOff := off, snapSafe := safe } where
  files := ⟨hs.files.1, hOn, hOff, hSafe⟩
  views := hs.views
  txLog := hs.txLog
  respLog := hs.respLog

theorem exec_inv {i : Instr} {s t : State} (hs : s.Inv) (h : exec i s = .next t) : t.Inv := by
  obtain ⟨hu, hOn, hOff, hSafe⟩ := hs.files
  rcases exec_keeps h with k | ⟨v, c, n, -, hok, rfl⟩ | ⟨-, rfl⟩ | ⟨-, rfl⟩ | ⟨-, rfl⟩ | ⟨-, rfl⟩ | ⟨-, rfl⟩
  · exact k.inv hs
  · exact (hs.buildView v hok).respond_ok []
  · exact hs.release.respond_ok []
  · exact (hs.setSnaps hu hOff hSafe).respond_ok []
  · exact (hs.setSnaps hOn hu hSafe).respond_ok []
  · exact (hs.setSnaps hOn hOff hu).respond_ok []
  · exact (hs.setSnaps hOn hOff Memory.wf_nil).respond_ok []

/-- Settles O50: a step meets the frame, or resets, or executes a command. -/
theorem stepKeepsInvariant : Obligations.StepKeepsInvariant := by
  intro s t hs h
  rcases step_keeps h with k | ⟨hs', -, rfl⟩ | ⟨-, i, hs', he⟩
  · exact k.inv hs
  · exact State.resetInput_inv _
  · exact exec_inv ((State.Keeps.setHost s hs').inv hs) he

/-- Settles O51: the state after reset is the reset state of the default parameters. -/
theorem resetHasInvariant : Obligations.ResetHasInvariant := State.resetWith_inv Config.default

end Sys2Proof.Machine
end

section
/-! PROOFS. Which steps write the sticky bits, the snapshots and the handle (10_state.md R25, R28, R31), read off the
frame of a command and of a step. -/

namespace Sys2Proof.Machine

/-! ### The release of the handle: it writes TP_OPEN and `tx_log` -/

theorem State.release_stickyKept (s : State) : StickyKept s s.release := by
  unfold State.release
  split <;> exact .refl s

@[simp] theorem State.release_tpOpen (s : State) : s.release.tpOpen = false := by
  unfold State.release
  split
  · rfl
  · next h => exact Bool.not_eq_true _ ▸ h

@[simp] theorem State.release_snapOn (s : State) : s.release.snapOn = s.snapOn := by
  unfold State.release
  split <;> rfl

@[simp] theorem State.release_snapOff (s : State) : s.release.snapOff = s.snapOff := by
  unfold State.release
  split <;> rfl

@[simp] theorem State.release_snapSafe (s : State) : s.release.snapSafe = s.snapSafe := by
  unfold State.release
  split <;> rfl

/-! ### The statements -/

theorem exec_stickyKept {i : Instr} {s t : State} (h : exec i s = .next t) : StickyKept s t := by
  rcases exec_keeps h with k | ⟨v, c, n, -, -, rfl⟩ | ⟨-, rfl⟩ | ⟨-, rfl⟩ | ⟨-, rfl⟩ | ⟨-, rfl⟩ | ⟨-, rfl⟩
  · exact k.sticky
  · exact .refl s
  · exact s.release_stickyKept
  · exact .refl s
  · exact .refl s
  · exact .refl s
  · exact .refl s

/-- Settles O55: the frame keeps every sticky bit that is set, and so do the commands outside it. -/
theorem stickyBitsStay : Obligations.StickyBitsStay := by
  intro s t hr h
  rcases step_keeps h with k | ⟨hs, hhost, -⟩ | ⟨-, i, hs, he⟩
  · exact k.sticky
  · simp [hhost] at hr
  · exact (exec_stickyKept he : StickyKept { s with host := hs } t)

/-- A command that is none of the four arming commands keeps all three snapshots, and each of the four writes its own
only. -/
theorem exec_snapshots {i : Instr} {s t : State} (h : exec i s = .next t) :
    (t.snapOn = s.snapOn ∨ i = .armon) ∧ (t.snapOff = s.snapOff ∨ i = .armoff) ∧
      (t.snapSafe = s.snapSafe ∨ i = .armsafe ∨ i = .clrsafe) := by
  rcases exec_keeps h with k | ⟨v, c, n, -, -, rfl⟩ | ⟨-, rfl⟩ | ⟨rfl, rfl⟩ | ⟨rfl, rfl⟩ | ⟨rfl, rfl⟩ | ⟨rfl, rfl⟩
  · exact ⟨.inl k.snapOn, .inl k.snapOff, .inl k.snapSafe⟩
  · exact ⟨.inl rfl, .inl rfl, .inl rfl⟩
  · exact ⟨.inl s.release_snapOn, .inl s.release_snapOff, .inl s.release_snapSafe⟩
  · exact ⟨.inr rfl, .inl rfl, .inl rfl⟩
  · exact ⟨.inl rfl, .inr rfl, .inl rfl⟩
  · exact ⟨.inl rfl, .inl rfl, .inr (.inl rfl)⟩
  · exact ⟨.inl rfl, .inl rfl, .inr (.inr rfl)⟩

/-- Settles O56: commands by `exec_snapshots`, steps of a run by the frame. -/
theorem snapshotsWrittenOnlyByArming : Obligations.SnapshotsWrittenOnlyByArming := by
  refine ⟨fun i s t h => ?_, fun s t hrun hr h => ?_⟩
  · obtain ⟨hOn, hOff, hSafe⟩ := exec_snapshots h
    exact ⟨hOn.resolve_left, hOff.resolve_left, hSafe.resolve_left⟩
  · have k := step_keeps_of_running hrun hr h
    exact ⟨k.snapOn, k.snapOff, k.snapSafe⟩

theorem exec_tpOpen {i : Instr} {s t : State} (h : exec i s = .next t) :
    t.tpOpen = s.tpOpen ∨ (i = .close ∧ t.tpOpen = false) := by
  rcases exec_keeps h with k | ⟨v, c, n, -, -, rfl⟩ | ⟨hi, rfl⟩ | ⟨-, rfl⟩ | ⟨-, rfl⟩ | ⟨-, rfl⟩ | ⟨-, rfl⟩
  · exact .inl k.tpOpen
  · exact .inl rfl
  · exact .inr ⟨hi, s.release_tpOpen⟩
  · exact .inl rfl
  · exact .inl rfl
  · exact .inl rfl
  · exact .inl rfl

/-- Settles O57: commands by `exec_tpOpen`, steps of a run by the frame. -/
theorem onlyCloseReleasesHandle : Obligations.OnlyCloseReleasesHandle :=
  ⟨fun _ _ _ h => (exec_tpOpen h).resolve_left, fun _ _ hrun hr h => (step_keeps_of_running hrun hr h).tpOpen⟩

end Sys2Proof.Machine
end

section
/-! PROOFS. A busy port leaves a presented packet where it is (10_state.md R42, 60_exceptions.md R245). -/

namespace Sys2Proof.Machine

/-- A packet stands first in HOST's moves. -/
def State.PacketFirst (s : State) : Prop := ∃ bs hs, s.host = .packet bs :: hs

theorem State.PacketFirst.hostPassive {s : State} (h : s.PacketFirst) : s.HostPassive := by
  obtain ⟨bs, hs, e⟩ := h
  simp [State.HostPassive, e]

/-- The move of the block that a packet waits behind ends no pass. -/
theorem State.PacketFirst.endPass {s : State} (h : s.PacketFirst) (t : State) : s.endPass t = t := by
  obtain ⟨bs, hs, e⟩ := h
  exact State.endPass_of_no_pass (by rw [e]; rfl) t

/-- A packet waits until the time inside a move of the block is over. -/
theorem State.PacketFirst.elapse_host {s : State} (h : s.PacketFirst) (k : Nat) : (s.elapse k).host = s.host := by
  obtain ⟨bs, hs, e⟩ := h
  rw [State.elapse_host, e, hostDuring_packet]

theorem State.PacketFirst.transmitCore_host {s : State} (h : s.PacketFirst) : s.transmitCore.2.host = s.host := by
  obtain ⟨bs, hs, e⟩ := h
  rcases s.transmitCore_cases with ⟨-, hc⟩ | ⟨-, a, d, -, hc⟩ | ⟨-, -, hc⟩ <;> rw [hc]
  · simp [e]
  · simp

@[simp] theorem phaseDone_host : ∀ p : TxResult × State, (phaseDone p).host = p.2.host
  | (.success, _) => rfl
  | (.fail _, _) => rfl
  | (.never, _) => rfl

@[simp] theorem finishDone_host (e : RunEnd) : ∀ p : TxResult × State, (finishDone e p).host = p.2.host
  | (.success, _) => rfl
  | (.fail _, _) => rfl
  | (.never, _) => rfl

@[simp] theorem failDone_host (c : TxCause) : ∀ p : TxResult × State, (failDone c p).host = p.2.host
  | (.success, _) => rfl
  | (.fail _, _) => rfl
  | (.never, _) => rfl

@[simp] theorem State.topStep_host (s : State) : s.topStep.host = s.host := by
  unfold State.topStep
  split
  · rfl
  · split <;> rfl

theorem State.PacketFirst.loopStep_host {s : State} (h : s.PacketFirst) (pos : LoopPos) :
    (s.loopStep pos).host = s.host := by
  cases pos with
  | top => exact s.topStep_host
  | phase => exact (phaseDone_host _).trans (State.PacketFirst.transmitCore_host (s := s.loadPhase) h)
  | sleep => exact h.elapse_host s.sleepTicks
  | flip => rfl
  | finish e => exact (finishDone_host e _).trans (State.PacketFirst.transmitCore_host (s := s.loadSafe) h)
  | fail c => exact (failDone_host c _).trans (State.PacketFirst.transmitCore_host (s := s.loadSafe) h)

/-- Inside a write that never returns a step only counts time (70_reset_and_hazards.md R275). -/
theorem step_hung {s : State} (hh : s.hung = true) (hp : s.HostPassive) :
    step s = .next (s.endPass (s.elapse 1)) := by
  simp [step, advance, hh, busyStep_passive hp]

/-- Settles O13: the block's move, in a run or inside a write, takes no packet of HOST. -/
theorem busyPortHoldsPacket : Obligations.BusyPortHoldsPacket := by
  intro s bs hs hbusy hhost
  have hp : s.PacketFirst := ⟨bs, hs, hhost⟩
  cases hh : s.hung with
  | true => exact ⟨_, step_hung hh hp.hostPassive, by rw [hp.endPass, hp.elapse_host]⟩
  | false =>
    have hrun : s.osc.isRunning = true := by simpa [State.PortFree, hh] using hbusy
    obtain ⟨pos, hpos⟩ := (OscState.isRunning_iff _).1 hrun
    exact ⟨_, step_running hpos hh hp.hostPassive, by rw [hp.endPass, hp.loopStep_host]⟩

end Sys2Proof.Machine
end

section
/-! PROOFS. The status register and the state after reset (10_state.md R32, R33, R44). -/

namespace Sys2Proof.Machine

/-- The bits of SR, bit 0 first (10_state.md R32). -/
def State.srBits (s : State) : List Bool :=
  [s.osc.code.getLsbD 0, s.osc.code.getLsbD 1, s.osc.code.getLsbD 2, s.phase, s.tpOpen, s.cancel, false, false,
    s.eEnc, s.eOor, s.eTx, s.eIll, false, false, false, false]

theorem State.sr_getLsbD (s : State) (k : Nat) : s.sr.getLsbD k = s.srBits.getD k false := by
  by_cases hk : k < 16
  · unfold State.sr
    simp only [BitVec.getLsbD_append]
    interval_cases k <;> simp [State.srBits]
  · rw [BitVec.getLsbD_of_ge _ _ (Nat.le_of_not_lt hk), List.getD_eq_default _ _ (Nat.le_of_not_lt hk)]

/-- A field of SR is what stands in its bits. -/
theorem State.sr_field {s : State} {k n : Nat} {x : BitVec n} (h : ∀ i < n, s.srBits.getD (k + i) false = x.getLsbD i) :
    s.sr.extractLsb' k n = x := by
  refine BitVec.eq_of_getLsbD_eq fun i hi => ?_
  rw [BitVec.getLsbD_extractLsb', s.sr_getLsbD, h i hi, decide_eq_true hi, Bool.true_and]

theorem State.sr_oscState (s : State) : s.sr.extractLsb' 0 3 = s.osc.code :=
  State.sr_field fun i hi => by interval_cases i <;> rfl

/-- Settles O37: each field is read off `State.srBits`, OSC_STATE through its code. -/
theorem statusRegisterFields : Obligations.StatusRegisterFields := by
  intro s
  have code {o : OscState} (h : s.osc = o) : s.sr.extractLsb' 0 3 = o.code := h ▸ s.sr_oscState
  refine ⟨code, fun h => ?_, code, code, code, s.sr_getLsbD 3, s.sr_getLsbD 4, s.sr_getLsbD 5, ?_, s.sr_getLsbD 8,
    s.sr_getLsbD 9, s.sr_getLsbD 10, s.sr_getLsbD 11, ?_⟩
  · obtain ⟨pos, h⟩ := (OscState.isRunning_iff _).1 h
    exact code h
  · exact State.sr_field fun i hi => by interval_cases i <;> rfl
  · exact State.sr_field fun i hi => by interval_cases i <;> rfl

theorem State.reset_views {w : View} (h : w ∈ State.reset.views) : w = View.empty :=
  List.eq_of_mem_replicate (n := 4) h

/-- Settles O15: every value by computation, the view slots as copies of one empty slot. -/
theorem resetStateValues : Obligations.ResetStateValues := by
  refine ⟨fun c => ⟨rfl, rfl, rfl, rfl⟩, rfl, fun w hw => ?_, rfl, rfl, rfl, rfl, rfl, rfl, rfl, rfl, rfl, rfl, rfl, rfl,
    rfl, rfl, rfl, rfl, rfl, rfl, rfl, rfl⟩
  rw [State.reset_views hw]
  exact ⟨rfl, rfl, rfl⟩

end Sys2Proof.Machine
end

section
/-! PROOFS. What of the state a reply of the transport can reach in one command (60_exceptions.md R247, 10_state.md
R21). -/

namespace Sys2Proof.Machine

/-- The state with all that a reply of the transport can reach at rest: time, the cancel latch, E_TX, the outstanding
write, the logs and the environment. -/
def State.sansTransport (s : State) : State :=
  { s with
    now := 0#64, cancel := false, eTx := false, hung := false
    txLog := [], respLog := [], host := [], replies := [], drawn := 0 }

/-- The state with another transport to come. -/
def State.withReplies (rs : List TxReply) (n : Nat) (s : State) : State := { s with replies := rs, drawn := n }

/-! ### A transmission -/

theorem State.transmitCore_sansTransport (s : State) : s.transmitCore.2.sansTransport = s.sansTransport := by
  rcases s.transmitCore_cases with ⟨-, h⟩ | ⟨-, a, d, -, h⟩ | ⟨-, -, h⟩ <;> rw [h]
  · rw [State.dropReply_eq]
    rfl
  · rw [State.dropReply_eq]
    rfl

theorem transmitDone_sansTransport : ∀ p : TxResult × State, (transmitDone p).sansTransport = p.2.sansTransport
  | (.success, _) => rfl
  | (.fail _, _) => rfl
  | (.never, _) => rfl

/-- A cancel request within a write is latched in a run only. -/
theorem State.transmitCore_cancel {s : State} (h : s.osc.isRunning = false) : s.transmitCore.2.cancel = s.cancel := by
  rcases s.transmitCore_cases with ⟨-, hc⟩ | ⟨-, a, d, -, hc⟩ | ⟨-, -, hc⟩ <;> rw [hc]
  · simp [h]
  · simp

theorem transmitDone_cancel : ∀ p : TxResult × State, (transmitDone p).cancel = p.2.cancel
  | (.success, _) => rfl
  | (.fail _, _) => rfl
  | (.never, _) => rfl

/-- TRANSMIT reaches no more of the state than the transport does. -/
theorem exec_transmit_frame {s t : State} (h : exec .transmit s = .next t) :
    t.sansTransport = s.sansTransport ∧ (s.osc.isRunning = false → t.cancel = s.cancel) := by
  cases h
  exact ⟨(transmitDone_sansTransport _).trans s.transmitCore_sansTransport,
    fun hr => (transmitDone_cancel _).trans (State.transmitCore_cancel hr)⟩

/-! ### The other commands -/

/-- A checked action that does not read the replies does not read them under its check either. -/
theorem State.guarded_withReplies {rs : List TxReply} {n : Nat} {act : State → State} {s : State} (ok : Bool)
    (h : act (s.withReplies rs n) = (act s).withReplies rs n) :
    (s.withReplies rs n).guarded ok act = (s.guarded ok act).withReplies rs n := by
  cases ok with
  | true => exact h
  | false => rfl

theorem State.release_withReplies (rs : List TxReply) (n : Nat) (s : State) :
    (s.withReplies rs n).release = s.release.withReplies rs n := by
  unfold State.release
  cases h : s.tpOpen <;> simp [h, State.withReplies, State.logTx]

/-- Every command but TRANSMIT does the same whatever the transport would reply, and asks it nothing. -/
theorem exec_withReplies {i : Instr} (hi : i ≠ .transmit) (rs : List TxReply) (n : Nat) (s : State) :
    ∃ t, exec i s = .next t ∧ exec i (s.withReplies rs n) = .next (t.withReplies rs n) := by
  cases i with
  | encode data =>
    refine ⟨_, rfl, congrArg Host.Outcome.next ?_⟩
    split <;> rfl
  | transmit => exact absurd rfl hi
  | close =>
    refine ⟨_, rfl, congrArg Host.Outcome.next ?_⟩
    rw [State.release_withReplies]
    rfl
  | armon | armoff | armsafe | clrsafe | rdsr => exact ⟨_, rfl, rfl⟩
  | setch | getch | setrng | view | vset | vget | dimmer | red | green | blue | stroberate | program | setrgb | strobe =>
    exact ⟨_, rfl, congrArg Host.Outcome.next (State.guarded_withReplies _ (by rfl))⟩

/-- Two runs of one command that differ in the replies end alike but for what a reply can reach. -/
theorem exec_sansTransport {i : Instr} {s t t' : State} {rs : List TxReply} {n : Nat} (h : exec i s = .next t)
    (h' : exec i (s.withReplies rs n) = .next t') :
    t'.sansTransport = t.sansTransport ∧ (s.osc.isRunning = false → t'.cancel = t.cancel) := by
  by_cases hi : i = .transmit
  · subst hi
    obtain ⟨e, hc⟩ := exec_transmit_frame h
    obtain ⟨e', hc'⟩ := exec_transmit_frame h'
    exact ⟨e'.trans e.symm, fun hr => (hc' hr).trans (hc hr).symm⟩
  · obtain ⟨r, hr, hr'⟩ := exec_withReplies hi rs n s
    cases hr.symm.trans h
    cases hr'.symm.trans h'
    exact ⟨rfl, fun _ => rfl⟩

/-- Settles O60: only TRANSMIT asks the transport, and all the fields named lie outside what its reply can reach. -/
theorem transportMutatesNothing : Obligations.TransportMutatesNothing := by
  intro i s t t' rs n h h'
  obtain ⟨e, hcancel⟩ := exec_sansTransport h h'
  exact ⟨(congrArg State.u e :), (congrArg State.snapOn e :), (congrArg State.snapOff e :), (congrArg State.snapSafe e :),
    (congrArg State.views e :), (congrArg State.tpOpen e :), (congrArg State.osc e :), (congrArg State.phase e :),
    (congrArg State.half e :), (congrArg State.dur e :), (congrArg State.t0 e :), (congrArg State.titer e :),
    (congrArg State.phaseCnt e :), (congrArg State.eEnc e :), (congrArg State.eOor e :), (congrArg State.eIll e :),
    hcancel⟩

end Sys2Proof.Machine
end

section
/-! PROOFS. View-relative addresses (20_memory.md R63, 10_state.md R26). -/

namespace Sys2Proof.Machine

/-- Settles O26: a slot that passes the check is one of the file and valid, so its invariant bounds the address. -/
theorem viewAccessInRange : Obligations.ViewAccessInRange :=
  fun _ _ _ hviews hcheck => viewChan_bounds hviews hcheck

end Sys2Proof.Machine
end

section
/-! PROOFS. The decoder and the encoder undo each other (30_encoding.md R96 to R102). -/

namespace Sys2Proof

/-! ### What each format accepts: the operand bytes of its command, and nothing else (R99, R101) -/

theorem parseF0_eq_ok_iff {c i : Instr} {bs : List Byte} : parseF0 c bs = .ok i ↔ bs = [] ∧ i = c := by
  constructor
  · intro h
    unfold parseF0 at h
    split at h
    · cases h; exact ⟨rfl, rfl⟩
    · cases h
  · rintro ⟨rfl, rfl⟩
    rfl

theorem parseFI_eq_ok_iff {k : Half → Instr} {bs : List Byte} {i : Instr} :
    parseFI k bs = .ok i ↔ ∃ index, bs = le16 index ∧ i = k index := by
  constructor
  · intro h
    unfold parseFI at h
    split at h
    · cases h; exact ⟨_, (le16_u16 _ _).symm, rfl⟩
    · cases h
  · rintro ⟨index, rfl, rfl⟩
    simp [parseFI, le16, u16_le16]

theorem parseFIV_eq_ok_iff {k : Half → Half → Instr} {bs : List Byte} {i : Instr} :
    parseFIV k bs = .ok i ↔ ∃ index value, bs = le16 index ++ le16 value ∧ i = k index value := by
  constructor
  · intro h
    unfold parseFIV at h
    split at h
    · cases h; exact ⟨_, _, by simp [le16_u16], rfl⟩
    · cases h
  · rintro ⟨index, value, rfl, rfl⟩
    simp [parseFIV, le16, u16_le16]

theorem parseFW_eq_ok_iff {k : Byte → Half → Half → Instr} {bs : List Byte} {i : Instr} :
    parseFW k bs = .ok i ↔ ∃ v start count, bs = v :: (le16 start ++ le16 count) ∧ i = k v start count := by
  constructor
  · intro h
    unfold parseFW at h
    split at h
    · cases h; exact ⟨_, _, _, by simp [le16_u16], rfl⟩
    · cases h
  · rintro ⟨v, start, count, rfl, rfl⟩
    simp [parseFW, le16, u16_le16]

theorem parseFVV_eq_ok_iff {k : Byte → Half → Half → Instr} {bs : List Byte} {i : Instr} :
    parseFVV k bs = .ok i ↔ ∃ v off value, bs = v :: (le16 off ++ le16 value) ∧ i = k v off value := by
  constructor
  · intro h
    unfold parseFVV at h
    split at h
    · cases h; exact ⟨_, _, _, by simp [le16_u16], rfl⟩
    · cases h
  · rintro ⟨v, off, value, rfl, rfl⟩
    simp [parseFVV, le16, u16_le16]

theorem parseFVO_eq_ok_iff {k : Byte → Half → Instr} {bs : List Byte} {i : Instr} :
    parseFVO k bs = .ok i ↔ ∃ v off, bs = v :: le16 off ∧ i = k v off := by
  constructor
  · intro h
    unfold parseFVO at h
    split at h
    · cases h; exact ⟨_, _, by simp [le16_u16], rfl⟩
    · cases h
  · rintro ⟨v, off, rfl, rfl⟩
    simp [parseFVO, le16, u16_le16]

theorem parseFC_eq_ok_iff {k : Half → Half → Half → Half → Instr} {bs : List Byte} {i : Instr} :
    parseFC k bs = .ok i ↔ ∃ base r g b, bs = le16 base ++ le16 r ++ le16 g ++ le16 b ∧ i = k base r g b := by
  constructor
  · intro h
    unfold parseFC at h
    split at h
    · cases h; exact ⟨_, _, _, _, by simp [le16_u16], rfl⟩
    · cases h
  · rintro ⟨base, r, g, b, rfl, rfl⟩
    simp [parseFC, le16, u16_le16]

theorem parseFS_eq_ok_iff {k : Word → Word → Byte → Instr} {bs : List Byte} {i : Instr} :
    parseFS k bs = .ok i ↔
      ∃ freqMhz durMs phase0, bs = le32 freqMhz ++ le32 durMs ++ [phase0] ∧ i = k freqMhz durMs phase0 := by
  constructor
  · intro h
    unfold parseFS at h
    split at h
    · cases h; exact ⟨_, _, _, by simp [le32_u32], rfl⟩
    · cases h
  · rintro ⟨freqMhz, durMs, phase0, rfl, rfl⟩
    simp [parseFS, le32, u32_le32]

/-- A count operand that states how many elements follow is the count the encoder writes. -/
theorem le16_ofNat_of_toNat_eq {lo hi : Byte} {n : Nat} (h : n = (u16 lo hi).toNat) :
    le16 (BitVec.ofNat 16 n) = [lo, hi] := by
  rw [h, BitVec.ofNat_toNat, BitVec.setWidth_eq, le16_u16]

theorem parseFE_eq_ok_iff {k : List Byte → Instr} {bs : List Byte} {i : Instr} :
    parseFE k bs = .ok i ↔
      ∃ data, data.length ≤ 65535 ∧ bs = le16 (BitVec.ofNat 16 data.length) ++ data ∧ i = k data := by
  constructor
  · intro h
    unfold parseFE at h
    split at h
    · next n0 n1 data =>
      split at h
      · next hlen =>
        cases h
        exact ⟨data, by have := (u16 n0 n1).isLt; omega, by rw [le16_ofNat_of_toNat_eq hlen]; rfl, rfl⟩
      · cases h
    · cases h
  · rintro ⟨data, hlen, rfl, rfl⟩
    exact if_pos (Laws.EncodedForm.count_readBack hlen).symm

theorem parseFR_eq_ok_iff {k : Half → List Half → Instr} {bs : List Byte} {i : Instr} :
    parseFR k bs = .ok i ↔
      ∃ start values, values.length ≤ 65535 ∧
        bs = le16 start ++ le16 (BitVec.ofNat 16 values.length) ++ le16s values ∧ i = k start values := by
  constructor
  · intro h
    unfold parseFR at h
    split at h
    · next s0 s1 n0 n1 vals =>
      split at h
      · next hlen =>
        cases h
        have hn : (halves vals).length = (u16 n0 n1).toNat := by rw [length_halves]; omega
        refine ⟨u16 s0 s1, halves vals, by have := (u16 n0 n1).isLt; omega, ?_, rfl⟩
        rw [le16_u16, le16_ofNat_of_toNat_eq hn, le16s_halves vals (by omega)]
        rfl
      · cases h
    · cases h
  · rintro ⟨start, values, hlen, rfl, rfl⟩
    have hcount := (length_le16s values).trans (congrArg (2 * ·) (Laws.EncodedForm.count_readBack hlen).symm)
    exact (if_pos hcount).trans (congrArg Except.ok (congrArg₂ k (u16_le16 start) (halves_le16s values)))

/-! ### The opcode map (R100, R102) -/

/-- One command of every row of the opcode table. -/
def tableRows : List Instr :=
  [.encode [], .setch 0 0, .getch 0, .setrng 0 [], .transmit, .close, .view 0 0 0, .vset 0 0 0, .vget 0 0, .dimmer 0 0,
    .red 0 0, .green 0 0, .blue 0 0, .stroberate 0 0, .program 0 0, .setrgb 0 0 0 0, .armon, .armoff, .armsafe,
    .clrsafe, .strobe 0 0 0, .rdsr]

theorem mem_tableRows_of_listed : ∀ op : Byte, Machine.ListedOpcode op → op ∈ tableRows.map opcode := by
  unfold Machine.ListedOpcode
  decide

/-- A byte outside R102's illegal ranges is the opcode of a command. -/
theorem exists_opcode_eq {op : Byte} (h : Machine.ListedOpcode op) : ∃ i, opcode i = op := by
  obtain ⟨i, -, hi⟩ := List.mem_map.1 (mem_tableRows_of_listed op h)
  exact ⟨i, hi⟩

theorem decodeOp_of_not_listed {op : Byte} (h : ¬ Machine.ListedOpcode op) (rest : List Byte) :
    decodeOp op rest = .error .illegalOpcode := by
  unfold decodeOp
  split
  case h_23 => rfl
  all_goals exact absurd (by unfold Machine.ListedOpcode; decide) h

/-! ### Both directions -/

theorem decode_encode {i : Instr} (h : i.wellFormed = true) : decode (encode i) = .ok i := by
  cases i with
  | encode data => exact parseFE_eq_ok_iff.2 ⟨data, of_decide_eq_true h, rfl, rfl⟩
  | setrng start values => exact parseFR_eq_ok_iff.2 ⟨start, values, of_decide_eq_true h, rfl, rfl⟩
  | getch => exact parseFI_eq_ok_iff.2 ⟨_, rfl, rfl⟩
  | setch | dimmer | red | green | blue | stroberate | program => exact parseFIV_eq_ok_iff.2 ⟨_, _, rfl, rfl⟩
  | view => exact parseFW_eq_ok_iff.2 ⟨_, _, _, rfl, rfl⟩
  | vset => exact parseFVV_eq_ok_iff.2 ⟨_, _, _, rfl, rfl⟩
  | vget => exact parseFVO_eq_ok_iff.2 ⟨_, _, rfl, rfl⟩
  | setrgb => exact parseFC_eq_ok_iff.2 ⟨_, _, _, _, rfl, rfl⟩
  | strobe => exact parseFS_eq_ok_iff.2 ⟨_, _, _, rfl, rfl⟩
  | transmit | close | armon | armoff | armsafe | clrsafe | rdsr => rfl

/-- In the row of the command `c`, only a command of that row comes out, and only of its own operand bytes. -/
theorem decodeOp_opcode_inv (c : Instr) {rest : List Byte} {i : Instr} (h : decodeOp (opcode c) rest = .ok i) :
    i.wellFormed = true ∧ encode i = opcode c :: rest := by
  cases c with
  | encode =>
    obtain ⟨data, hlen, rfl, rfl⟩ := parseFE_eq_ok_iff.1 h
    exact ⟨decide_eq_true hlen, rfl⟩
  | setrng =>
    obtain ⟨start, values, hlen, rfl, rfl⟩ := parseFR_eq_ok_iff.1 h
    exact ⟨decide_eq_true hlen, rfl⟩
  | getch =>
    obtain ⟨index, rfl, rfl⟩ := parseFI_eq_ok_iff.1 h
    exact ⟨rfl, rfl⟩
  | setch | dimmer | red | green | blue | stroberate | program =>
    obtain ⟨index, value, rfl, rfl⟩ := parseFIV_eq_ok_iff.1 h
    exact ⟨rfl, rfl⟩
  | view =>
    obtain ⟨v, start, count, rfl, rfl⟩ := parseFW_eq_ok_iff.1 h
    exact ⟨rfl, rfl⟩
  | vset =>
    obtain ⟨v, off, value, rfl, rfl⟩ := parseFVV_eq_ok_iff.1 h
    exact ⟨rfl, rfl⟩
  | vget =>
    obtain ⟨v, off, rfl, rfl⟩ := parseFVO_eq_ok_iff.1 h
    exact ⟨rfl, rfl⟩
  | setrgb =>
    obtain ⟨base, r, g, b, rfl, rfl⟩ := parseFC_eq_ok_iff.1 h
    exact ⟨rfl, rfl⟩
  | strobe =>
    obtain ⟨freqMhz, durMs, phase0, rfl, rfl⟩ := parseFS_eq_ok_iff.1 h
    exact ⟨rfl, rfl⟩
  | transmit | close | armon | armoff | armsafe | clrsafe | rdsr =>
    obtain ⟨rfl, rfl⟩ := parseF0_eq_ok_iff.1 h
    exact ⟨rfl, rfl⟩

/-- The decoder is the inverse of the encoder on the well-formed commands. -/
theorem decode_eq_ok_iff {bs : List Byte} {i : Instr} :
    decode bs = .ok i ↔ i.wellFormed = true ∧ encode i = bs := by
  constructor
  · intro h
    cases bs with
    | nil => cases h
    | cons op rest =>
      have h : decodeOp op rest = .ok i := h
      by_cases hop : Machine.ListedOpcode op
      · obtain ⟨c, rfl⟩ := exists_opcode_eq hop
        exact decodeOp_opcode_inv c h
      · rw [decodeOp_of_not_listed hop] at h
        cases h
  · rintro ⟨hwf, rfl⟩
    exact decode_encode hwf

/-! ### The statements -/

/-- Settles O1: each format accepts the operand bytes of its commands. -/
theorem decodeOfEncode : Obligations.DecodeOfEncode := fun _ h => decode_encode h

/-- Settles O2: in a listed row only the operand bytes of a command are accepted, in another nothing is. -/
theorem encodeOfDecode : Obligations.EncodeOfDecode := fun _ _ h => decode_eq_ok_iff.1 h

/-- Settles O3: each packet is the encoding of its command. -/
theorem specPacketsDecode : Obligations.SpecPacketsDecode :=
  ⟨decode_eq_ok_iff.2 ⟨rfl, rfl⟩, decode_eq_ok_iff.2 ⟨rfl, rfl⟩, decode_eq_ok_iff.2 ⟨rfl, rfl⟩,
    decode_eq_ok_iff.2 ⟨rfl, rfl⟩, decode_eq_ok_iff.2 ⟨rfl, rfl⟩, decode_eq_ok_iff.2 ⟨rfl, rfl⟩,
    decode_eq_ok_iff.2 ⟨rfl, rfl⟩⟩

end Sys2Proof
end

section
/-! PROOFS. Packets that are no command, and the step that takes a packet (30_encoding.md R96, R101, R102;
60_exceptions.md R235). -/

namespace Sys2Proof

/-! ### A packet of the length its format gives is a command (R99, R101) -/

theorem exists_parseF0_eq_ok {c : Instr} {bs : List Byte} (h : bs.length = 0) : ∃ i, parseF0 c bs = .ok i := by
  obtain rfl := List.length_eq_zero_iff.1 h
  exact ⟨c, rfl⟩

theorem exists_parseFI_eq_ok {k : Half → Instr} : ∀ {bs : List Byte}, bs.length = 2 → ∃ i, parseFI k bs = .ok i
  | [_, _], _ => ⟨_, rfl⟩

theorem exists_parseFIV_eq_ok {k : Half → Half → Instr} :
    ∀ {bs : List Byte}, bs.length = 4 → ∃ i, parseFIV k bs = .ok i
  | [_, _, _, _], _ => ⟨_, rfl⟩

theorem exists_parseFW_eq_ok {k : Byte → Half → Half → Instr} :
    ∀ {bs : List Byte}, bs.length = 5 → ∃ i, parseFW k bs = .ok i
  | [_, _, _, _, _], _ => ⟨_, rfl⟩

theorem exists_parseFVV_eq_ok {k : Byte → Half → Half → Instr} :
    ∀ {bs : List Byte}, bs.length = 5 → ∃ i, parseFVV k bs = .ok i
  | [_, _, _, _, _], _ => ⟨_, rfl⟩

theorem exists_parseFVO_eq_ok {k : Byte → Half → Instr} :
    ∀ {bs : List Byte}, bs.length = 3 → ∃ i, parseFVO k bs = .ok i
  | [_, _, _], _ => ⟨_, rfl⟩

theorem exists_parseFC_eq_ok {k : Half → Half → Half → Half → Instr} :
    ∀ {bs : List Byte}, bs.length = 8 → ∃ i, parseFC k bs = .ok i
  | [_, _, _, _, _, _, _, _], _ => ⟨_, rfl⟩

theorem exists_parseFS_eq_ok {k : Word → Word → Byte → Instr} :
    ∀ {bs : List Byte}, bs.length = 9 → ∃ i, parseFS k bs = .ok i
  | [_, _, _, _, _, _, _, _, _], _ => ⟨_, rfl⟩

/-- The count is read as `packetLength` reads it, a byte past the end as 0; a packet too short to hold it has not the
length it gives. -/
theorem exists_parseFE_eq_ok {k : List Byte → Instr} :
    ∀ {bs : List Byte}, bs.length + 1 = 3 + (u16 (byteAt bs 0) (byteAt bs 1)).toNat → ∃ i, parseFE k bs = .ok i
  | [], h => by simp only [List.length_nil] at h; omega
  | [_], h => by simp only [List.length_cons, List.length_nil] at h; omega
  | n0 :: n1 :: data, h => by
    have h : data.length + 2 + 1 = 3 + (u16 n0 n1).toNat := h
    exact ⟨k data, if_pos (by omega)⟩

theorem exists_parseFR_eq_ok {k : Half → List Half → Instr} :
    ∀ {bs : List Byte}, bs.length + 1 = 5 + 2 * (u16 (byteAt bs 2) (byteAt bs 3)).toNat →
      ∃ i, parseFR k bs = .ok i
  | s0 :: s1 :: n0 :: n1 :: vals, h => by
    have h : vals.length + 4 + 1 = 5 + 2 * (u16 n0 n1).toNat := h
    exact ⟨k (u16 s0 s1) (halves vals), if_pos (by omega)⟩
  | [], h | [_], h | [_, _], h | [_, _, _], h => by simp only [List.length_cons, List.length_nil] at h; omega

theorem exists_decodeOp_eq_ok (c : Instr) {rest : List Byte}
    (h : rest.length + 1 = packetLength (opcode c :: rest)) : ∃ i, decodeOp (opcode c) rest = .ok i := by
  cases c with
  | encode => exact exists_parseFE_eq_ok h
  | setrng => exact exists_parseFR_eq_ok h
  | getch => exact exists_parseFI_eq_ok (Nat.succ.inj h)
  | setch | dimmer | red | green | blue | stroberate | program => exact exists_parseFIV_eq_ok (Nat.succ.inj h)
  | view => exact exists_parseFW_eq_ok (Nat.succ.inj h)
  | vset => exact exists_parseFVV_eq_ok (Nat.succ.inj h)
  | vget => exact exists_parseFVO_eq_ok (Nat.succ.inj h)
  | setrgb => exact exists_parseFC_eq_ok (Nat.succ.inj h)
  | strobe => exact exists_parseFS_eq_ok (Nat.succ.inj h)
  | transmit | close | armon | armoff | armsafe | clrsafe | rdsr => exact exists_parseF0_eq_ok (Nat.succ.inj h)

theorem length_encode {i : Instr} (h : i.wellFormed = true) : (encode i).length = packetLength (encode i) := by
  cases i with
  | encode data => exact (Laws.EncodedForm.encode data h).2.1
  | setrng start values => exact (Laws.EncodedForm.setrng start values h).2.1
  | _ => rfl

/-- Only a packet of the length its format gives is a command. -/
theorem length_of_decode {bs : List Byte} {i : Instr} (h : decode bs = .ok i) : bs.length = packetLength bs := by
  obtain ⟨hwf, rfl⟩ := decode_eq_ok_iff.1 h
  exact length_encode hwf

namespace Machine

/-! ### The step at a packet -/

theorem step_packet {s : State} {bs : List Byte} {hs : List HostMove} (hfree : s.PortFree)
    (hhost : s.host = .packet bs :: hs) : step s = runPacket bs { s with host := hs } := by
  rw [advance_portFree hfree, hostStep, hhost]

/-- A packet that is no command is refused, for whatever reason it is none. -/
theorem step_illegalPacket {s : State} {bs : List Byte} {hs : List HostMove} (hfree : s.PortFree)
    (hhost : s.host = .packet bs :: hs) (hd : ∀ i, decode bs ≠ .ok i) : step s = .next s.afterIllegal := by
  rw [step_packet hfree hhost, runPacket]
  cases hdec : decode bs with
  | ok i => exact absurd hdec (hd i)
  | error e => rw [State.afterIllegal, hhost]; rfl

/-! ### The statements -/

/-- Settles O11: the step at a free port is HOST's, and HOST's packet runs. -/
theorem stepRunsDecodedCommand : Obligations.StepRunsDecodedCommand := by
  intro s bs hs i hfree hhost hd
  rw [step_packet hfree hhost, runPacket, hd]

/-- Settles O4: an empty packet and an unlisted opcode decode to no command. -/
theorem unlistedOpcodeRefused : Obligations.UnlistedOpcodeRefused := by
  rintro s bs hs hfree hhost (rfl | ⟨op, rest, rfl, hop⟩)
  · exact step_illegalPacket hfree hhost nofun
  · refine step_illegalPacket hfree hhost fun i hd => ?_
    cases (decodeOp_of_not_listed hop rest).symm.trans hd

/-- Settles O5: the opcode fixes the format, and the format accepts exactly its length. -/
theorem wrongLengthRefused : Obligations.WrongLengthRefused := by
  intro op rest hop
  refine ⟨fun hlen => ?_, fun hlen s hs hfree hhost =>
    step_illegalPacket hfree hhost fun i hd => hlen (length_of_decode hd)⟩
  obtain ⟨c, rfl⟩ := exists_opcode_eq hop
  exact exists_decodeOp_eq_ok c hlen

end Machine

end Sys2Proof
end

section
/-! PROOFS. The wire frame, the response bytes and the value policy (30_encoding.md R90 to R95, R98, R103). -/

namespace Sys2Proof.Machine

/-! ### The count fields and the frame, byte by byte -/

/-- The two bytes of a count, low byte first, add up to it. -/
theorem toNat_le16_bytes {n : Nat} (h : n ≤ 65535) :
    ((BitVec.ofNat 16 n).extractLsb' 0 8).toNat + 256 * ((BitVec.ofNat 16 n).extractLsb' 8 8).toNat = n :=
  (u16_toNat _ _).symm.trans (Laws.EncodedForm.count_readBack h)

/-- Behind its five fixed bytes a frame is the channel bytes and the end delimiter. -/
theorem getElem?_frame (d : List Byte) (k : Nat) : (frame d)[5 + k]? = (d ++ [endDelim])[k]? := by
  rw [Nat.add_comm]
  rfl

theorem getElem?_frame_data {d : List Byte} {k : Nat} (h : k < d.length) : (frame d)[5 + k]? = d[k]? := by
  rw [getElem?_frame, List.getElem?_append_left h]

theorem getElem?_frame_end (d : List Byte) : (frame d)[5 + d.length]? = some endDelim := by
  rw [getElem?_frame, List.getElem?_concat_length]

/-! ### The statements -/

/-- Settles O6: the fixed bytes by computation, the others through `getElem?_frame`. -/
theorem frameLayout : Obligations.FrameLayout := fun d hd =>
  ⟨length_frame d, rfl, rfl, ⟨_, _, rfl, rfl, toNat_le16_bytes (by omega)⟩, rfl, fun _ => getElem?_frame_data,
    getElem?_frame_end d⟩

/-- Settles O7: the frame of the 512 channels, channel `c` being byte `c - 1` of the data. -/
theorem universeFrameLayout : Obligations.UniverseFrameLayout := by
  intro u
  have hlen : (u.readAll 1 512).length = 512 := u.length_readAll 1 512
  obtain ⟨-, hfirst, -⟩ := universeFrame_isFrame u .err
  refine ⟨length_universeFrame u, hfirst, fun c h1 h2 => ?_, ?_⟩
  · obtain ⟨k, rfl⟩ := Nat.exists_eq_add_of_le h1
    calc (universeFrame u)[4 + (1 + k)]?
      _ = (frame (u.readAll 1 512))[5 + k]? := by rw [← Nat.add_assoc]; rfl
      _ = (u.readAll 1 512)[k]? := getElem?_frame_data (by omega)
      _ = some (u.read (1 + k)) := by rw [Memory.getElem?_readAll, if_pos (by omega)]
  · have hend := getElem?_frame_end (u.readAll 1 512)
    rw [hlen] at hend
    exact hend

/-- Settles O8: the status codes by computation, the count field by `toNat_le16_bytes`. -/
theorem responseLayout : Obligations.ResponseLayout :=
  ⟨⟨rfl, rfl, rfl, rfl, rfl, rfl⟩, fun _ h => ⟨rfl, ⟨_, _, rfl, rfl, toNat_le16_bytes h⟩, rfl⟩⟩

/-- Settles O9: the tests of `clamp8` in order; a value in 0..255 is its own low byte. -/
theorem valueClamped : Obligations.ValueClamped := by
  intro v
  refine ⟨fun hneg => if_pos hneg, fun hbig => ?_, fun h0 h255 => ?_⟩
  · rw [clamp8, if_neg (by omega), if_pos hbig]
  · rw [clamp8, if_neg (by omega), if_neg (by omega), BitVec.toNat_setWidth]
    have := v.isLt
    have := BitVec.toInt_eq_toNat_cond v
    split at this <;> omega

end Sys2Proof.Machine
end

section
/-! PROOFS. The Frame Codec command ENCODE (40_frame_codec.md R120 to R122). -/

namespace Sys2Proof.Machine

/-! ### The two branches of ENCODE, on either side of 512 channels -/

theorem exec_encode_of_length_le {data : List Byte} (h : data.length ≤ 512) (s : State) :
    exec (.encode data) s = .next (s.respond .ok (frame data)) :=
  congrArg Host.Outcome.next (if_neg (Nat.not_lt.2 h))

theorem exec_encode_of_lt_length {data : List Byte} (h : 512 < data.length) (s : State) :
    exec (.encode data) s = .next (s.raise .encodingError []) :=
  congrArg Host.Outcome.next (if_pos h)

/-! ### The statement -/

/-- Settles O18: up to 512 channels ENCODE only responds; with more, `raise` sets `E_ENC` and responds. -/
theorem encodeCommand : Obligations.EncodeCommand := by
  intro s data
  refine ⟨rfl, fun hle => ?_, fun hlt => ?_⟩
  · exact ⟨_, exec_encode_of_length_le hle s, rfl⟩
  · exact exec_encode_of_lt_length hlt s

end Sys2Proof.Machine
end

section
/-! PROOFS. The two outcomes of a checked command, and what a write of the universe does (20_memory.md R71,
60_exceptions.md R236, R241). -/

namespace Sys2Proof.Machine

/-! ### The operand check -/

theorem State.next_guarded_true {ok : Bool} (h : ok = true) (act : State → State) (s : State) :
    (.next (s.guarded ok act) : Host.Outcome State Fault Refusal) = .next (act s) :=
  congrArg Host.Outcome.next (State.guarded_true h act s)

theorem State.next_guarded_false {ok : Bool} (h : ok = false) (act : State → State) (s : State) :
    (.next (s.guarded ok act) : Host.Outcome State Fault Refusal) = .next s.afterOor :=
  congrArg Host.Outcome.next (State.guarded_false h act s)

theorem chanOk_eq_false {c : Half} (h : c.toNat = 0 ∨ 512 < c.toNat) : chanOk c = false :=
  (outOfRange_chan c).1 (by omega)

/-! ### The actions -/

theorem State.respond_onlyResponse (st : Status) (d : List Byte) (s : State) :
    OnlyResponse s (s.respond st d) ⟨st, d⟩ := rfl

theorem State.storeChan_onlyUniverse (c : Nat) (v : Byte) (s : State) :
    OnlyUniverse s (s.storeChan c v) ⟨.ok, []⟩ := rfl

theorem State.storeChan_channelSet (c : Nat) (v : Byte) (s : State) : ChannelSet s.u (s.storeChan c v).u c v :=
  Memory.read_write s.u c v

theorem State.storeRange_onlyUniverse (c : Nat) (vs : List Byte) (s : State) :
    OnlyUniverse s (s.storeRange c vs) ⟨.ok, []⟩ := rfl

theorem State.storeRange_rangeSet (c : Nat) (vs : List Byte) (s : State) : RangeSet s.u (s.storeRange c vs).u c vs :=
  Memory.read_writeAll s.u c vs

end Sys2Proof.Machine
end

section
/-! PROOFS. The Universe Buffer commands on channels: SETCH, GETCH, SETRNG (41_universe_buffer.md R141 to R143). -/

namespace Sys2Proof.Machine

/-! ### The two branches of SETCH and GETCH -/

theorem exec_setch_of_chanOk {index : Half} (h : chanOk index = true) (value : Half) (s : State) :
    exec (.setch index value) s = .next (s.storeChan index.toNat (clamp8 value)) :=
  State.next_guarded_true h _ s

theorem exec_getch_of_chanOk {index : Half} (h : chanOk index = true) (s : State) :
    exec (.getch index) s = .next (s.respond .ok [s.u.read index.toNat]) :=
  State.next_guarded_true h _ s

/-- Settles O19: the index check decides between the write of one channel and the refusal. -/
theorem setchCommand : Obligations.SetchCommand := by
  intro s index value
  refine ⟨rfl, fun h1 h2 => ?_, fun hout => ?_⟩
  · exact ⟨_, exec_setch_of_chanOk ((chanOk_iff index).2 ⟨h1, h2⟩) value s, State.storeChan_onlyUniverse _ _ s,
      State.storeChan_channelSet _ _ s⟩
  · exact State.next_guarded_false (chanOk_eq_false hout) _ s

/-- Settles O20: the index check decides between the response and the refusal. -/
theorem getchCommand : Obligations.GetchCommand := by
  intro s index
  refine ⟨rfl, fun h1 h2 => ?_, fun hout => ?_⟩
  · exact ⟨_, exec_getch_of_chanOk ((chanOk_iff index).2 ⟨h1, h2⟩) s, State.respond_onlyResponse _ _ s⟩
  · exact State.next_guarded_false (chanOk_eq_false hout) _ s

/-- Settles O21: GETCH reads back the channel SETCH wrote. -/
theorem setThenGetRoundTrip : Obligations.SetThenGetRoundTrip := by
  intro s t c v h1 h2 hset
  have hok : chanOk c = true := (chanOk_iff c).2 ⟨h1, h2⟩
  cases (exec_setch_of_chanOk hok v s).symm.trans hset
  have hread : (s.storeChan c.toNat (clamp8 v)).u.read c.toNat = clamp8 v :=
    (State.storeChan_channelSet _ _ s c.toNat).trans (if_pos rfl)
  refine ⟨_, exec_getch_of_chanOk hok _, ?_⟩
  rw [hread]
  exact State.respond_onlyResponse _ _ _

/-! ### SETRNG -/

theorem le16s_eq_flatMap (vs : List Half) : le16s vs = vs.flatMap le16 := by
  induction vs with
  | nil => rfl
  | cons v vs ih => rw [le16s, ih, List.flatMap_cons]

/-- Settles O22: the range check passes over all channels at once, so the write is of the whole range or of nothing. -/
theorem setrngCommand : Obligations.SetrngCommand := by
  intro s start values
  refine ⟨?_, fun h1 h2 hfit => ?_, fun hout => ?_⟩
  · rw [← le16s_eq_flatMap]
    rfl
  · have hok : rangeOk start values.length = true := (rangeOk_iff _ _).2 ⟨h1, h2, hfit⟩
    exact ⟨_, State.next_guarded_true hok _ s, State.storeRange_onlyUniverse _ _ s, State.storeRange_rangeSet _ _ s⟩
  · have hbad : rangeOk start values.length = false := (outOfRange_range _ _).1 (by omega)
    exact State.next_guarded_false hbad _ s

end Sys2Proof.Machine
end

section
/-! PROOFS. The Universe Buffer commands on fixture views: VIEW, VSET, VGET (41_universe_buffer.md R144 to R146). -/

namespace Sys2Proof.Machine

/-! ### VIEW -/

/-- The checked operands of VIEW fit the 10 bits of a slot. -/
theorem builtView_fields {c n : Half} (h : viewOk c n = true) :
    (c.setWidth 10).toNat = c.toNat ∧ (n.setWidth 10).toNat = n.toNat := by
  obtain ⟨h1, h2, h3⟩ := (viewOk_iff c n).1 h
  simp only [BitVec.toNat_setWidth]
  omega

/-- Settles O23: the slot is built from operands that fit it, or the check refuses and no slot is touched. -/
theorem viewCommand : Obligations.ViewCommand := by
  intro s v start count
  refine ⟨rfl, fun hslot h1 h2 hfit => ?_, fun hout => ?_⟩
  · have hview : viewOk start count = true := (viewOk_iff _ _).2 ⟨h1, h2, by omega⟩
    have hok : (decide (v.toNat < s.nview) && viewOk start count) = true := by
      rw [hview, Bool.and_true]
      exact decide_eq_true hslot
    obtain ⟨hstart, hcount⟩ := builtView_fields hview
    exact ⟨_, _, State.next_guarded_true hok _ s, rfl, hstart, hcount, rfl⟩
  · have hbad : (decide (v.toNat < s.nview) && viewOk start count) = false :=
      (outOfRange_view s v start count).1 (by omega)
    exact State.next_guarded_false hbad _ s

/-! ### The check of a view access -/

theorem viewAccessOk_of_slot {s : State} {v : Byte} {off : Half} {w : View} (hw : s.views[v.toNat]? = some w)
    (hvalid : w.valid = true) (hoff : off.toNat < w.count.toNat) :
    s.viewAccessOk v off = true ∧ s.viewChan v off = w.start.toNat + off.toNat := by
  have hslot : s.slot v = w := by
    rw [State.slot, List.getD_eq_getElem?_getD, hw, Option.getD_some]
  exact ⟨(viewAccessOk_iff s v off).2 ⟨w, hw, hvalid, hoff, hslot⟩, by rw [State.viewChan, hslot]⟩

theorem viewAccessOk_eq_false {s : State} {v : Byte} {off : Half}
    (h : s.views[v.toNat]? = none ∨
      ∃ w, s.views[v.toNat]? = some w ∧ (w.valid = false ∨ w.count.toNat ≤ off.toNat)) :
    s.viewAccessOk v off = false := by
  rw [← Bool.not_eq_true, viewAccessOk_iff]
  rintro ⟨w, hw, hvalid, hoff, -⟩
  rcases h with hnone | ⟨w', hw', hbad⟩
  · rw [hw] at hnone
    cases hnone
  · cases hw.symm.trans hw'
    rcases hbad with hinvalid | hpast
    · rw [hvalid] at hinvalid
      cases hinvalid
    · omega

/-! ### VSET and VGET -/

/-- Settles O24: the check decides between the write of channel `VSTART + off` and the refusal. -/
theorem vsetCommand : Obligations.VsetCommand := by
  intro s v off value
  refine ⟨rfl, fun w hw hvalid hoff => ?_, fun hbad => ?_⟩
  · obtain ⟨hok, hchan⟩ := viewAccessOk_of_slot hw hvalid hoff
    refine ⟨_, State.next_guarded_true hok _ s, State.storeChan_onlyUniverse _ _ s, ?_⟩
    rw [← hchan]
    exact State.storeChan_channelSet _ _ s
  · exact State.next_guarded_false (viewAccessOk_eq_false hbad) _ s

/-- Settles O25: the check decides between the response with channel `VSTART + off` and the refusal. -/
theorem vgetCommand : Obligations.VgetCommand := by
  intro s v off
  refine ⟨rfl, fun w hw hvalid hoff => ?_, fun hbad => ?_⟩
  · obtain ⟨hok, hchan⟩ := viewAccessOk_of_slot hw hvalid hoff
    refine ⟨_, State.next_guarded_true hok _ s, ?_⟩
    rw [← hchan]
    exact State.respond_onlyResponse _ _ s
  · exact State.next_guarded_false (viewAccessOk_eq_false hbad) _ s

end Sys2Proof.Machine
end

section
/-! PROOFS. The Universe Buffer commands on the transport: TRANSMIT and CLOSE (41_universe_buffer.md R147 to R149). -/

namespace Sys2Proof.Machine

/-! ### TRANSMIT -/

theorem State.transmitCore_wrote {s : State} {a : TxAnswer} {d : Nat} (ho : s.tpOpen = true)
    (hr : s.reply = .answered a d) :
    s.transmitCore = (if a = .ok 518 then .success else .fail (failCause a), s.wrote s.u a d) := by
  rw [State.transmitCore_answered ho hr, State.afterWrite_eq_wrote, TxResult.ofAnswer_eq]

theorem exec_transmit (s : State) : exec .transmit s = .next (transmitDone s.transmitCore) := rfl

/-- Settles O27: `Ok(518)` is the one answer that counts as success. -/
theorem transmitSendsUniverse : Obligations.TransmitSendsUniverse := by
  refine ⟨rfl, fun s d ho hr => ?_⟩
  rw [exec_transmit, State.transmitCore_wrote ho hr, if_pos rfl]
  rfl

/-- Settles O28: a released handle fails before any write, another answer than `Ok(518)` after it, each with its
cause. -/
theorem transmitFails : Obligations.TransmitFails := by
  refine fun s => ⟨fun hclosed => ?_, fun a d ho hr ha => ?_⟩
  · rw [exec_transmit, State.transmitCore_closed hclosed]
    rfl
  · rw [exec_transmit, State.transmitCore_wrote ho hr, if_neg ha, ← failCause_byte]
    rfl

/-! ### CLOSE -/

theorem State.release_of_open {s : State} (h : s.tpOpen = true) :
    s.release = State.logTx .close { s with tpOpen := false } := if_pos h

theorem State.release_of_closed {s : State} (h : s.tpOpen = false) : s.release = s :=
  if_neg (Bool.not_eq_true _ ▸ h)

theorem exec_close (s : State) : exec .close s = .next (s.release.respond .ok []) := rfl

/-- Settles O30: on an open handle the release and its log entry, on a released one the response alone. -/
theorem closeCommand : Obligations.CloseCommand := by
  refine ⟨rfl, fun s => ⟨fun ho => ?_, fun hclosed => ?_⟩⟩
  · rw [exec_close, State.release_of_open ho]
    rfl
  · refine ⟨_, exec_close s, ?_⟩
    rw [State.release_of_closed hclosed]
    exact State.respond_onlyResponse _ _ s

end Sys2Proof.Machine
end

section
/-! PROOFS. The Fixture Channel Map: the six single-control commands and SETRGB (42_fixture_map.md R170 to R179). -/

namespace Sys2Proof.Machine

/-! ### The footprint of a base -/

theorem footprintOk_eq_false {base : Half} (h : base.toNat = 0 ∨ 507 < base.toNat) : footprintOk base = false :=
  (outOfRange_storeControl base).1 (by omega)

/-- The 16-bit sum of a base whose footprint fits and an offset inside it does not wrap. -/
theorem toNat_base_add_offset {base : Half} {k : Nat} (hbase : base.toNat ≤ 507) (hk : k ≤ 5) :
    (base + BitVec.ofNat 16 k).toNat = fixtureChan base k := by
  rw [BitVec.toNat_add, BitVec.toNat_ofNat, fixtureChan]
  omega

/-! ### The single-control commands -/

/-- `mk` builds the single-control command that addresses offset `k` of a fixture (42_fixture_map.md R170). -/
structure IsControl (k : Nat) (mk : Half → Half → Instr) : Prop where
  offset_le : k ≤ 5
  encode_eq : ∀ base value, encode (mk base value) = BitVec.ofNat 8 (0x30 + k) :: (le16 base ++ le16 value)
  exec_eq : ∀ base value s, exec (mk base value) s = .next (s.storeControl k base value)

/-- The channel map's six commands, each with its offset (42_fixture_map.md R172 to R177). -/
theorem isControl_of_mem : ∀ p ∈ [(0, Instr.dimmer), (1, Instr.red), (2, Instr.green), (3, Instr.blue),
    (4, Instr.stroberate), (5, Instr.program)], IsControl p.1 p.2 := by
  simp only [List.forall_mem_cons]
  refine ⟨?_, ?_, ?_, ?_, ?_, ?_, nofun⟩ <;> exact ⟨by decide, fun _ _ => rfl, fun _ _ _ => rfl⟩

theorem IsControl.exec_of_footprintOk {k : Nat} {mk : Half → Half → Instr} (hc : IsControl k mk) {base : Half}
    (h : footprintOk base = true) (value : Half) (s : State) :
    exec (mk base value) s = .next (s.storeChan (fixtureChan base k) (clamp8 value)) :=
  (hc.exec_eq base value s).trans (State.next_guarded_true h _ s)

/-- Settles O31: the footprint check decides between the write of the channel at the command's offset and the
refusal. -/
theorem controlCommands : Obligations.ControlCommands := by
  intro p hp s base value
  have hc : IsControl p.1 p.2 := isControl_of_mem p hp
  refine ⟨hc.encode_eq base value, fun h1 h2 => ?_, fun hout => ?_⟩
  · exact ⟨_, hc.exec_of_footprintOk ((footprintOk_iff base).2 ⟨h1, h2⟩) value s,
      State.storeChan_onlyUniverse _ _ s, State.storeChan_channelSet _ _ s⟩
  · exact (hc.exec_eq base value s).trans (State.next_guarded_false (footprintOk_eq_false hout) _ s)

/-- Settles O33: the mapped channel is a channel number, so both commands pass their check and write that channel. -/
theorem controlIsSetch : Obligations.ControlIsSetch := by
  intro p hp s base value h1 h2
  have hc : IsControl p.1 p.2 := isControl_of_mem p hp
  have hchan : (base + BitVec.ofNat 16 p.1).toNat = fixtureChan base p.1 := toNat_base_add_offset h2 hc.offset_le
  have hok : chanOk (base + BitVec.ofNat 16 p.1) = true := by
    have := hc.offset_le
    rw [chanOk_iff, hchan, fixtureChan]
    omega
  rw [hc.exec_of_footprintOk ((footprintOk_iff base).2 ⟨h1, h2⟩), exec_setch_of_chanOk hok, hchan]

/-! ### SETRGB -/

theorem RangeSet.read_three {m m' : Memory} {c : Nat} {x y z : Byte} (h : RangeSet m m' (c + 1) [x, y, z]) (a : Nat) :
    m'.read a = if a = c + 1 then x else if a = c + 2 then y else if a = c + 3 then z else m.read a := by
  have hlen : [x, y, z].length = 3 := rfl
  rw [h a, hlen]
  by_cases hin : c + 1 ≤ a ∧ a < c + 1 + 3
  · rw [if_pos hin]
    obtain rfl | rfl | rfl : a = c + 1 ∨ a = c + 2 ∨ a = c + 3 := by omega
    all_goals simp
  · rw [if_neg hin, if_neg (by omega), if_neg (by omega), if_neg (by omega)]

/-- Settles O32: the footprint check passes over the three channels at once, which are one range from offset 1 on. -/
theorem setrgbCommand : Obligations.SetrgbCommand := by
  intro s base r g b
  refine ⟨rfl, fun h1 h2 => ?_, fun hout => ?_⟩
  · have hok : footprintOk base = true := (footprintOk_iff base).2 ⟨h1, h2⟩
    exact ⟨_, State.next_guarded_true hok _ s, State.storeRange_onlyUniverse _ _ s,
      (State.storeRange_rangeSet _ _ s).read_three⟩
  · exact State.next_guarded_false (footprintOk_eq_false hout) _ s

end Sys2Proof.Machine
end

section
/-! PROOFS. The Timed Oscillator's commands and the conversions of STROBE (43_oscillator.md R190 to R197, R208). -/

namespace Sys2Proof.Machine

/-! ### HALF and DUR in 64 bits -/

theorem halfTicks_toNat {tickHz : Nat} (h : tickHz ≤ 1000000000) (freqMhz : Word) :
    (halfTicks tickHz freqMhz).toNat = 500 * tickHz / freqMhz.toNat := by
  have hquot : 500 * tickHz / freqMhz.toNat ≤ 500 * tickHz := Nat.div_le_self _ _
  rw [halfTicks, BitVec.toNat_ofNat]
  exact Nat.mod_eq_of_lt (by omega)

theorem durTicks_toNat {tickHz : Nat} (h : tickHz ≤ 1000000000) (durMs : Word) :
    (durTicks tickHz durMs).toNat = durMs.toNat * (tickHz / 1000) := by
  have hprod : durMs.toNat * (tickHz / 1000) ≤ 2 ^ 32 * 1000000 :=
    Nat.mul_le_mul durMs.isLt.le (by omega)
  rw [durTicks, BitVec.toNat_ofNat]
  exact Nat.mod_eq_of_lt (by omega)

/-- Settles O10: the quotient is at most `500 * 10^9`, the product below `2^32 * 10^6`. -/
theorem strobeConversions : Obligations.StrobeConversions :=
  fun _ freqMhz durMs htick _ => ⟨halfTicks_toNat htick freqMhz, durTicks_toNat htick durMs⟩

/-! ### STROBE -/

theorem exec_strobe_of_valid {freqMhz : Word} {phase0 : Byte} (hf : freqMhz.toNat ≠ 0) (hp : phase0.toNat ≤ 1)
    (durMs : Word) (s : State) :
    exec (.strobe freqMhz durMs phase0) s = .next (s.startRun freqMhz durMs phase0) :=
  State.next_guarded_true ((strobeOk_iff freqMhz phase0).2 ⟨hf, hp⟩) _ s

theorem State.startRun_phase_iff (freqMhz durMs : Word) (phase0 : Byte) (s : State) :
    (s.startRun freqMhz durMs phase0).phase = true ↔ phase0.toNat = 1 :=
  decide_eq_true_iff.trans BitVec.toNat_inj.symm

/-- Settles O35: the operand check decides between the start step and the refusal. -/
theorem strobeCommand : Obligations.StrobeCommand := by
  intro s freqMhz durMs phase0
  refine ⟨rfl, fun hf hp htick => ?_, fun hbad => ?_⟩
  · exact ⟨_, exec_strobe_of_valid hf.ne' hp durMs s, rfl, halfTicks_toNat htick freqMhz,
      durTicks_toNat htick durMs, State.startRun_phase_iff freqMhz durMs phase0 s⟩
  · exact State.next_guarded_false ((outOfRange_strobe freqMhz phase0).1 hbad) _ s

@[simp] theorem transmitDone_osc : ∀ p : TxResult × State, (transmitDone p).osc = p.2.osc
  | (.success, _) => rfl
  | (.fail _, _) => rfl
  | (.never, _) => rfl

@[simp] theorem State.release_osc (s : State) : s.release.osc = s.osc := by
  unfold State.release
  split <;> rfl

/-- A command keeps OSC_STATE, or it is the start step of a run. -/
theorem exec_osc {i : Instr} {s t : State} (h : exec i s = .next t) :
    t.osc = s.osc ∨
    (t.osc = .running .top ∧ ∃ f d p, i = .strobe f d p ∧ f.toNat ≠ 0 ∧ p.toNat ≤ 1) := by
  rcases exec_cases h with ⟨rfl, -⟩ | ⟨rfl, -⟩ | ⟨d, rfl, -⟩ | ⟨c, vs, rfl, -⟩ | ⟨v, c, n, -, -, rfl, -⟩ |
    ⟨-, rfl⟩ | ⟨-, rfl⟩ | ⟨-, rfl⟩ | ⟨-, rfl⟩ | ⟨-, rfl⟩ | ⟨-, rfl⟩ | ⟨f, d, p, hi, hf, hp, rfl⟩
  · exact .inl rfl
  · exact .inl rfl
  · exact .inl rfl
  · exact .inl rfl
  · exact .inl rfl
  · exact .inl ((transmitDone_osc _).trans s.transmitCore_osc)
  · exact .inl s.release_osc
  · exact .inl rfl
  · exact .inl rfl
  · exact .inl rfl
  · exact .inl rfl
  · exact .inr ⟨rfl, f, d, p, hi, hf, hp⟩

/-- Settles O53: a command that does not keep OSC_STATE is the start step. -/
theorem onlyStrobeStartsRun : Obligations.OnlyStrobeStartsRun :=
  fun _ _ _ h hne => (exec_osc h).resolve_left hne

/-! ### The arming commands and RDSR -/

/-- Settles O34: each command is one assignment and the OK response; the file CLRSAFE writes lists no cell. -/
theorem armCommands : Obligations.ArmCommands :=
  ⟨rfl, rfl, rfl, rfl, fun _ => ⟨rfl, rfl, rfl, _, rfl, rfl, Memory.read_nil⟩⟩

/-- Settles O36: RDSR is the response alone. -/
theorem rdsrCommand : Obligations.RdsrCommand :=
  fun s => ⟨rfl, _, rfl, State.respond_onlyResponse _ _ s⟩

end Sys2Proof.Machine
end

section
/-! PROOFS. The steps of a run: the cancel request, and what each position of the loop does (43_oscillator.md R198 to
R204, 60_exceptions.md R240). -/

namespace Sys2Proof.Machine

/-! ### The cancel request -/

/-- A cancel request is taken in every mode, at the port or inside a write. -/
theorem step_cancel {s : State} {hs : List HostMove} (h : s.host = .cancel :: hs) :
    step s = .next (State.latchCancel true { s with host := hs }) := by
  unfold step advance busyStep hostStep
  rw [h]
  split
  · rfl
  · split <;> rfl

/-- A wait longer than the time that passes is not over in it. -/
theorem hostDuring_of_lt_wait {d n : Nat} (h : d < n) (hs : List HostMove) :
    hostDuring d (.wait n :: hs) = (false, .wait (n - d) :: hs) := by
  simp [hostDuring, Nat.not_le.2 h]

/-- Settles O14: the latch of `latchCancel`, and the moment of a request by the ticks HOST waits before it. -/
theorem cancelRequestLatched : Obligations.CancelRequestLatched := by
  refine ⟨fun s hs h => ?_, fun d n hs => ⟨fun hle => ?_, fun hlt => ?_⟩⟩
  · rw [step_cancel h]
    cases hr : s.osc.isRunning <;> simp [State.latchCancel, hr]
  · exact (hostDuring_wait_cancel d n hs).trans (decide_eq_true hle)
  · exact hostDuring_of_lt_wait hlt _

/-- Everything a step of a run can do but a reset: latch a cancel request, count one tick inside a write that never
returns, or make the loop's move. -/
theorem step_running_cases {s t : State} (hrun : s.osc.isRunning = true) (hr : s.host.head? ≠ some .reset)
    (h : step s = .next t) :
    (∃ hs, s.host = .cancel :: hs ∧ t = State.latchCancel true { s with host := hs }) ∨
    (s.HostPassive ∧ s.hung = true ∧ t = s.elapse 1) ∨
    (s.HostPassive ∧ s.hung = false ∧ ∃ pos, s.osc = .running pos ∧ t = s.endPass (s.loopStep pos)) := by
  have busy : ¬ s.PortFree := fun hfree => by simp [hfree.2] at hrun
  rcases step_cases h with ⟨hs, hhost, -⟩ | hcancel | hhung | hmove | ⟨hfree, -⟩ | ⟨hfree, -⟩ | ⟨hfree, -⟩ |
    ⟨hfree, -⟩ | ⟨hfree, -⟩
  · simp [hhost] at hr
  · exact .inl hcancel
  · exact .inr (.inl hhung)
  · exact .inr (.inr hmove)
  all_goals exact absurd hfree busy

/-! ### The top, the sleep and the flip -/

theorem State.topStep_of_due {s : State} (h : s.dur.toNat ≤ s.elapsed.toNat) :
    s.topStep = { s with osc := .running (.finish .completed) } := if_pos h

theorem State.topStep_of_cancel {s : State} (h : s.elapsed.toNat < s.dur.toNat) (hc : s.cancel = true) :
    s.topStep = { s with osc := .running (.finish .stopped) } := by
  simp [State.topStep, Nat.not_le.2 h, hc]

theorem State.topStep_of_early {s : State} (h : s.elapsed.toNat < s.dur.toNat) (hc : s.cancel = false) :
    s.topStep = { s with osc := .running .phase } := by
  simp [State.topStep, Nat.not_le.2 h, hc]

/-- Settles O38: the three branches of the top of an iteration. -/
theorem topOfIteration : Obligations.TopOfIteration := by
  intro s hpos hh hp
  have hstep : step s = .next (s.endPass s.topStep) := step_running hpos hh hp
  refine ⟨fun hdue => ?_, fun hearly hc => ?_, fun hearly hc => ?_⟩
  · rw [hstep, State.topStep_of_due hdue]
  · rw [hstep, State.topStep_of_cancel hearly hc]
  · rw [hstep, State.topStep_of_early hearly hc]

/-- `NOW` after the sleep's ticks: `TITER + HALF`, or unchanged if that many have passed. -/
theorem State.now_add_sleepTicks (s : State) :
    s.now + BitVec.ofNat 64 s.sleepTicks =
      if (s.now - s.titer).toNat ≤ s.half.toNat then s.titer + s.half else s.now := by
  unfold State.sleepTicks
  split
  · next hle =>
    calc s.now + BitVec.ofNat 64 (s.half.toNat - (s.now - s.titer).toNat)
        = s.now + (s.half - (s.now - s.titer)) := by
          rw [← BitVec.toNat_sub_of_le hle, BitVec.ofNat_toNat, BitVec.setWidth_eq]
      _ = s.titer + s.half := by ring
  · next hlt =>
    rw [Nat.sub_eq_zero_of_le (by omega)]
    exact BitVec.add_zero _

/-- Settles O40: the sleep is time passing, and its ticks are counted from TITER. -/
theorem sleepIsExact : Obligations.SleepIsExact := by
  intro s hpos hh hp
  refine ⟨?_, s.now_add_sleepTicks⟩
  rw [← s.now_add_sleepTicks, step_running hpos hh hp]
  simp [State.loopStep, State.sleepStep, State.elapse, State.latchCancel, State.tick, hpos, OscState.isRunning]

/-- Settles O41: the flip is the loop's own move. -/
theorem flipInvertsPhase : Obligations.FlipInvertsPhase :=
  fun _ hpos hh hp => step_running hpos hh hp

end Sys2Proof.Machine
end

section
/-! PROOFS. The transmissions of a run, each by what the transport does with the write: the phase frame, the final frame
and the fail path (43_oscillator.md R199, R202, R203). -/

namespace Sys2Proof.Machine

/-- What the transport does with a write: the handle is released, it answers, or it never returns. -/
theorem State.write_cases (s : State) :
    s.tpOpen = false ∨ (s.tpOpen = true ∧ ∃ a d, s.reply = .answered a d) ∨ (s.tpOpen = true ∧ s.reply = .never) := by
  rcases s.transmitCore_cases with ⟨ho, -⟩ | ⟨ho, a, d, hr, -⟩ | ⟨ho, hr, -⟩
  · exact .inl ho
  · exact .inr (.inl ⟨ho, a, d, hr⟩)
  · exact .inr (.inr ⟨ho, hr⟩)

/-- The end of a run that failed: OSC_STATE, E_TX and the response (43_oscillator.md R202, R203). -/
def State.failRun (c : TxCause) (s : State) : State :=
  { s with osc := .failed, eTx := true, respLog := s.respLog ++ [⟨.transmitError, [c.byte]⟩] }

/-! ### The phase frame -/

theorem State.phaseStep_closed {s : State} (ho : s.tpOpen = false) :
    s.phaseStep = { s with titer := s.now, u := s.snapOf s.phase, osc := .running (.fail .closed) } := by
  rw [State.phaseStep, State.transmitCore_closed (s := s.loadPhase) ho]
  rfl

theorem State.phaseStep_accepted {s : State} {d : Nat} (ho : s.tpOpen = true)
    (hr : s.reply = .answered (.ok 518) d) :
    s.phaseStep = { s.wrote (s.snapOf s.phase) (.ok 518) d with
      titer := s.now, u := s.snapOf s.phase, phaseCnt := s.phaseCnt + 1#32, osc := .running .sleep } := by
  rw [State.phaseStep, State.transmitCore_wrote (s := s.loadPhase) ho hr, if_pos rfl]
  rfl

theorem State.phaseStep_refused {s : State} {a : TxAnswer} {d : Nat} (ho : s.tpOpen = true)
    (hr : s.reply = .answered a d) (ha : a ≠ .ok 518) :
    s.phaseStep = { s.wrote (s.snapOf s.phase) a d with
      titer := s.now, u := s.snapOf s.phase, osc := .running (.fail (failCause a)) } := by
  rw [State.phaseStep, State.transmitCore_wrote (s := s.loadPhase) ho hr, if_neg ha]
  rfl

theorem State.phaseStep_unanswered {s : State} (ho : s.tpOpen = true) (hr : s.reply = .never) :
    s.phaseStep = s.loadPhase.unanswered := by
  rw [State.phaseStep, State.transmitCore_unanswered (s := s.loadPhase) ho hr]
  rfl

/-- Settles O39: the transport's answer decides where the loop goes on. -/
theorem phaseTransmission : Obligations.PhaseTransmission := by
  intro s hpos hh hp
  have hstep : step s = .next (s.endPass s.phaseStep) := step_running hpos hh hp
  refine ⟨fun d ho hr => ?_, fun a d ho hr ha => ?_, fun ho => ?_⟩
  · rw [hstep, State.phaseStep_accepted ho hr]
  · rw [hstep, State.phaseStep_refused ho hr ha]
  · rw [hstep, State.phaseStep_closed ho]

/-! ### The final frame -/

theorem State.finishStep_closed {s : State} (ho : s.tpOpen = false) (e : RunEnd) :
    s.finishStep e = s.loadSafe.failRun .closed := by
  rw [State.finishStep, State.transmitCore_closed (s := s.loadSafe) ho]
  rfl

theorem State.finishStep_accepted {s : State} {d : Nat} (ho : s.tpOpen = true)
    (hr : s.reply = .answered (.ok 518) d) (e : RunEnd) :
    s.finishStep e = { s.wrote s.snapSafe (.ok 518) d with
      u := s.snapSafe, osc := e.osc, respLog := s.respLog ++ [⟨.ok, e.byte :: le32 s.phaseCnt⟩] } := by
  rw [State.finishStep, State.transmitCore_wrote (s := s.loadSafe) ho hr, if_pos rfl]
  rfl

theorem State.finishStep_refused {s : State} {a : TxAnswer} {d : Nat} (ho : s.tpOpen = true)
    (hr : s.reply = .answered a d) (ha : a ≠ .ok 518) (e : RunEnd) :
    s.finishStep e = State.failRun (failCause a) { s.wrote s.snapSafe a d with u := s.snapSafe } := by
  rw [State.finishStep, State.transmitCore_wrote (s := s.loadSafe) ho hr, if_neg ha]
  rfl

theorem State.finishStep_unanswered {s : State} (ho : s.tpOpen = true) (hr : s.reply = .never) (e : RunEnd) :
    s.finishStep e = s.loadSafe.unanswered := by
  rw [State.finishStep, State.transmitCore_unanswered (s := s.loadSafe) ho hr]
  rfl

theorem RunEnd.osc_eq (e : RunEnd) : e.osc = if e = .completed then .completed else .stopped := by
  cases e <;> rfl

theorem RunEnd.byte_eq (e : RunEnd) : e.byte = if e = .completed then 3#8 else 2#8 := by
  cases e <;> rfl

/-! ### The fail path -/

theorem State.failStep_closed {s : State} (ho : s.tpOpen = false) (c : TxCause) :
    s.failStep c = s.loadSafe.failRun c := by
  rw [State.failStep, State.transmitCore_closed (s := s.loadSafe) ho]
  rfl

/-- The answer to the best-effort frame is ignored. -/
theorem State.failStep_answered {s : State} {a : TxAnswer} {d : Nat} (ho : s.tpOpen = true)
    (hr : s.reply = .answered a d) (c : TxCause) :
    s.failStep c = State.failRun c { s.wrote s.snapSafe a d with u := s.snapSafe } := by
  rw [State.failStep, State.transmitCore_wrote (s := s.loadSafe) ho hr]
  split <;> rfl

theorem State.failStep_unanswered {s : State} (ho : s.tpOpen = true) (hr : s.reply = .never) (c : TxCause) :
    s.failStep c = State.setSticky .transmitError s.loadSafe.unanswered := by
  rw [State.failStep, State.transmitCore_unanswered (s := s.loadSafe) ho hr]
  rfl

/-! ### A pass of HOST before the last write of a run -/

theorem State.transmitCore_of_pass {s : State} {hs : List HostMove} (h : s.host = .pass :: hs) :
    s.transmitCore.2.host = .pass :: hs ∧ s.transmitCore.2.cancel = s.cancel := by
  rcases s.transmitCore_cases with ⟨-, hc⟩ | ⟨-, a, d, -, hc⟩ | ⟨-, -, hc⟩ <;> rw [hc]
  · exact ⟨h, rfl⟩
  · simp [h]
  · simp [h]

/-- A move of the block that leaves the pass where it stands ends it, unless its write never returns. -/
theorem State.endPass_host_of_pass {s t : State} {hs : List HostMove} (h : s.host = .pass :: hs)
    (ht : t.host = .pass :: hs) (hh : t.hung = false) : (s.endPass t).host = hs := by
  simp [h, ht, hh, passFirst]

@[simp] theorem finishDone_cancel (e : RunEnd) : ∀ p : TxResult × State, (finishDone e p).cancel = p.2.cancel
  | (.success, _) => rfl
  | (.fail _, _) => rfl
  | (.never, _) => rfl

@[simp] theorem failDone_cancel (c : TxCause) : ∀ p : TxResult × State, (failDone c p).cancel = p.2.cancel
  | (.success, _) => rfl
  | (.fail _, _) => rfl
  | (.never, _) => rfl

theorem State.finishStep_of_pass {s : State} {hs : List HostMove} (h : s.host = .pass :: hs) (e : RunEnd)
    (hh : (s.finishStep e).hung = false) :
    (s.endPass (s.finishStep e)).host = hs ∧ (s.finishStep e).cancel = s.cancel := by
  obtain ⟨hhost, hcancel⟩ := State.transmitCore_of_pass (s := s.loadSafe) h
  exact ⟨State.endPass_host_of_pass h ((finishDone_host e _).trans hhost) hh, (finishDone_cancel e _).trans hcancel⟩

theorem State.failStep_of_pass {s : State} {hs : List HostMove} (h : s.host = .pass :: hs) (c : TxCause)
    (hh : (s.failStep c).hung = false) :
    (s.endPass (s.failStep c)).host = hs ∧ (s.failStep c).cancel = s.cancel := by
  obtain ⟨hhost, hcancel⟩ := State.transmitCore_of_pass (s := s.loadSafe) h
  exact ⟨State.endPass_host_of_pass h ((failDone_host c _).trans hhost) hh, (failDone_cancel c _).trans hcancel⟩

/-- Settles O42: the transport's answer decides how the run ends. -/
theorem finalFrame : Obligations.FinalFrame := by
  intro s e hpos hh hp
  have hstep : step s = .next (s.endPass (s.finishStep e)) := step_running hpos hh hp
  refine ⟨fun d ho hr => ?_, fun a d ho hr ha => ?_, fun ho => ?_, fun hs t hpass ht hth => ?_⟩
  · rw [hstep, State.finishStep_accepted ho hr, ← e.osc_eq, ← e.byte_eq]
  · rw [hstep, State.finishStep_refused ho hr ha, ← failCause_byte]
    rfl
  · rw [hstep, State.finishStep_closed ho]
    rfl
  · cases hstep.symm.trans ht
    exact State.finishStep_of_pass hpass e hth

/-- Settles O43: the cause is that of the phase frame, whatever the best-effort frame's answer. -/
theorem failPath : Obligations.FailPath := by
  intro s c hpos hh hp
  have hstep : step s = .next (s.endPass (s.failStep c)) := step_running hpos hh hp
  refine ⟨fun a d ho hr => ?_, fun ho => ?_, fun hs t hpass ht hth => ?_⟩
  · rw [hstep, State.failStep_answered ho hr]
    rfl
  · rw [hstep, State.failStep_closed ho]
    rfl
  · cases hstep.symm.trans ht
    exact State.failStep_of_pass hpass c hth

end Sys2Proof.Machine
end

section
/-! PROOFS. What holds of every step of a run: the table of OSC_STATE (43_oscillator.md R190), the safe end (R205 (b),
(d)), and the alternation of the phases (R201, R205 (a)). -/

namespace Sys2Proof.Machine

/-! ### OSC_STATE -/

theorem State.topStep_isRunning (s : State) : s.topStep.osc.isRunning = true := by
  unfold State.topStep
  split
  · rfl
  · split <;> rfl

theorem phaseDone_isRunning : ∀ p : TxResult × State, p.2.osc.isRunning = true → (phaseDone p).osc.isRunning = true
  | (.success, _), _ => rfl
  | (.fail _, _), _ => rfl
  | (.never, _), h => h

theorem State.phaseStep_isRunning {s : State} (h : s.osc.isRunning = true) : s.phaseStep.osc.isRunning = true :=
  phaseDone_isRunning _ (by rw [State.transmitCore_osc]; exact h)

theorem OscState.ne_idle_of_isRunning {o : OscState} (h : o.isRunning = true) : o ≠ .idle := by
  rintro rfl
  cases h

theorem RunEnd.osc_ne_idle : ∀ e : RunEnd, e.osc ≠ .idle
  | .completed => nofun
  | .stopped => nofun

theorem finishDone_osc_ne_idle (e : RunEnd) :
    ∀ p : TxResult × State, p.2.osc ≠ .idle → (finishDone e p).osc ≠ .idle
  | (.success, _), _ => e.osc_ne_idle
  | (.fail _, _), _ => nofun
  | (.never, _), h => h

theorem failDone_osc_ne_idle (c : TxCause) : ∀ p : TxResult × State, p.2.osc ≠ .idle → (failDone c p).osc ≠ .idle
  | (.success, _), _ => nofun
  | (.fail _, _), _ => nofun
  | (.never, _), h => h

theorem State.loopStep_osc_ne_idle {s : State} (h : s.osc.isRunning = true) (pos : LoopPos) :
    (s.loopStep pos).osc ≠ .idle := by
  have written : ∀ t : State, t.osc = s.osc → t.transmitCore.2.osc ≠ .idle := fun t ht => by
    rw [State.transmitCore_osc, ht]
    exact OscState.ne_idle_of_isRunning h
  cases pos with
  | top => exact OscState.ne_idle_of_isRunning s.topStep_isRunning
  | phase => exact OscState.ne_idle_of_isRunning (State.phaseStep_isRunning h)
  | sleep => exact nofun
  | flip => exact nofun
  | finish e => exact finishDone_osc_ne_idle e _ (written s.loadSafe rfl)
  | fail c => exact failDone_osc_ne_idle c _ (written s.loadSafe rfl)

/-- Settles O54: the loop never goes to Idle, and at a free port only a command moves OSC_STATE. -/
theorem oscillatorTransitions : Obligations.OscillatorTransitions := by
  intro s t hr h
  rcases step_cases h with ⟨hs, hhost, -⟩ | ⟨hs, -, rfl⟩ | ⟨-, -, rfl⟩ | ⟨-, -, pos, hpos, rfl⟩ | ⟨-, -, rfl⟩ |
    ⟨-, n, hs, -, rfl⟩ | ⟨-, hs, -, rfl⟩ | ⟨hfree, bs, hs, i, -, -, he⟩ | ⟨-, bs, hs, e, -, -, rfl⟩
  · simp [hhost] at hr
  · exact .inl rfl
  · exact .inl rfl
  · have hrun : s.osc.isRunning = true := by rw [hpos]; rfl
    exact .inr (.inr ⟨hrun, State.loopStep_osc_ne_idle hrun pos⟩)
  · exact .inl rfl
  · exact .inl rfl
  · exact .inl rfl
  · exact (exec_osc he).imp_right fun ⟨htop, _⟩ => .inl ⟨hfree.2, htop⟩
  · exact .inl rfl

/-! ### The end of a run -/

/-- The end of a run as 43_oscillator.md R205 (b), (d) has it: from `s` to `t`, U is SAFE, and either the safe frame was
accepted and answered OK, or the run failed and answered TransmitError. -/
def State.EndsOnSafe (s t : State) : Prop :=
  t.u = t.snapSafe ∧ t.snapSafe = s.snapSafe ∧
    ((t.osc = .stopped ∨ t.osc = .completed) ∧ t.txLog = s.txLog ++ [sentOk t.snapSafe] ∧
        (∃ d, t.respLog = s.respLog ++ [⟨.ok, d⟩]) ∨
      t.osc = .failed ∧ t.eTx = true ∧ ∃ c, t.respLog = s.respLog ++ [⟨.transmitError, [c]⟩])

theorem RunEnd.osc_cases : ∀ e : RunEnd, e.osc = .stopped ∨ e.osc = .completed
  | .completed => .inr rfl
  | .stopped => .inl rfl

theorem State.EndsOnSafe.failRun {s t : State} (hu : t.u = s.snapSafe) (hsafe : t.snapSafe = s.snapSafe)
    (hresp : t.respLog = s.respLog) (c : TxCause) : s.EndsOnSafe (t.failRun c) :=
  ⟨hu.trans hsafe.symm, hsafe, .inr ⟨rfl, rfl, c.byte, congrArg (· ++ _) hresp⟩⟩

theorem State.finishStep_endsOnSafe {s : State} {e : RunEnd} (hrun : s.osc.isRunning = true)
    (hend : (s.finishStep e).osc.isRunning = false) : s.EndsOnSafe (s.finishStep e) := by
  rcases s.write_cases with ho | ⟨ho, a, d, hr⟩ | ⟨ho, hr⟩
  · rw [State.finishStep_closed ho]
    exact .failRun rfl rfl rfl _
  · by_cases ha : a = .ok 518
    · subst ha
      rw [State.finishStep_accepted ho hr]
      exact ⟨rfl, rfl, .inl ⟨e.osc_cases, rfl, _, rfl⟩⟩
    · rw [State.finishStep_refused ho hr ha]
      exact .failRun (t := { s.wrote s.snapSafe a d with u := s.snapSafe }) rfl rfl rfl _
  · rw [State.finishStep_unanswered ho hr] at hend
    exact absurd hrun (Bool.eq_false_iff.1 hend)

theorem State.failStep_endsOnSafe {s : State} {c : TxCause} (hrun : s.osc.isRunning = true)
    (hend : (s.failStep c).osc.isRunning = false) : s.EndsOnSafe (s.failStep c) := by
  rcases s.write_cases with ho | ⟨ho, a, d, hr⟩ | ⟨ho, hr⟩
  · rw [State.failStep_closed ho]
    exact .failRun rfl rfl rfl _
  · rw [State.failStep_answered ho hr]
    exact .failRun (t := { s.wrote s.snapSafe a d with u := s.snapSafe }) rfl rfl rfl c
  · rw [State.failStep_unanswered ho hr] at hend
    exact absurd hrun (Bool.eq_false_iff.1 hend)

/-- Only the final frame and the fail path end a run. -/
theorem State.loopStep_endsOnSafe {s : State} {pos : LoopPos} (hrun : s.osc.isRunning = true)
    (hend : (s.loopStep pos).osc.isRunning = false) : s.EndsOnSafe (s.loopStep pos) := by
  cases pos with
  | top => exact absurd s.topStep_isRunning (Bool.eq_false_iff.1 hend)
  | phase => exact absurd (State.phaseStep_isRunning hrun) (Bool.eq_false_iff.1 hend)
  | sleep => cases hend
  | flip => cases hend
  | finish e => exact State.finishStep_endsOnSafe hrun hend
  | fail c => exact State.failStep_endsOnSafe hrun hend

/-- Settles O44: a cancel request and time inside a write keep the run going, the rest is the loop's move. -/
theorem runEndsOnSafe : Obligations.RunEndsOnSafe := by
  intro s t hrun hr h hend
  rcases step_running_cases hrun hr h with ⟨hs, -, rfl⟩ | ⟨-, -, rfl⟩ | ⟨-, -, pos, -, rfl⟩
  · exact absurd hrun (Bool.eq_false_iff.1 hend)
  · exact absurd hrun (Bool.eq_false_iff.1 hend)
  · exact State.loopStep_endsOnSafe hrun hend

/-! ### The phase of the first frame -/

theorem getElem_zero_add_one (n : Word) : (n + 1#32)[0] = !n[0] := by
  simp [BitVec.getElem_add]

/-- The registers `firstPhase` is recovered from. -/
theorem State.firstPhase_congr {s t : State} (hphase : t.phase = s.phase) (hcnt : t.phaseCnt = s.phaseCnt)
    (hflip : t.osc.flipPending = s.osc.flipPending) : t.firstPhase = s.firstPhase := by
  unfold State.firstPhase
  rw [hphase, hcnt, hflip]

theorem State.topStep_firstPhase {s : State} (h : s.osc = .running .top) : s.topStep.firstPhase = s.firstPhase := by
  unfold State.topStep
  split
  · exact State.firstPhase_congr rfl rfl (by rw [h]; rfl)
  · split <;> exact State.firstPhase_congr rfl rfl (by rw [h]; rfl)

/-- A phase frame that succeeds inverts the parity of PHASECNT and leaves a flip pending. -/
theorem State.phaseStep_firstPhase {s : State} (h : s.osc = .running .phase) :
    s.phaseStep.firstPhase = s.firstPhase := by
  rcases s.write_cases with ho | ⟨ho, a, d, hr⟩ | ⟨ho, hr⟩
  · rw [State.phaseStep_closed ho]
    exact State.firstPhase_congr rfl rfl (by rw [h]; rfl)
  · by_cases ha : a = .ok 518
    · subst ha
      rw [State.phaseStep_accepted ho hr]
      simp [State.firstPhase, State.wrote, getElem_zero_add_one, h, OscState.flipPending]
    · rw [State.phaseStep_refused ho hr ha]
      exact State.firstPhase_congr rfl rfl (by rw [h]; rfl)
  · rw [State.phaseStep_unanswered ho hr]
    exact State.firstPhase_congr rfl rfl rfl

theorem State.finishStep_firstPhase {s : State} {e : RunEnd} (h : s.osc = .running (.finish e)) :
    (s.finishStep e).firstPhase = s.firstPhase := by
  rcases s.write_cases with ho | ⟨ho, a, d, hr⟩ | ⟨ho, hr⟩
  · rw [State.finishStep_closed ho]
    exact State.firstPhase_congr rfl rfl (by rw [h]; rfl)
  · by_cases ha : a = .ok 518
    · subst ha
      rw [State.finishStep_accepted ho hr]
      exact State.firstPhase_congr rfl rfl (by rw [h]; cases e <;> rfl)
    · rw [State.finishStep_refused ho hr ha]
      exact State.firstPhase_congr rfl rfl (by rw [h]; rfl)
  · rw [State.finishStep_unanswered ho hr]
    exact State.firstPhase_congr rfl rfl rfl

theorem State.failStep_firstPhase {s : State} {c : TxCause} (h : s.osc = .running (.fail c)) :
    (s.failStep c).firstPhase = s.firstPhase := by
  rcases s.write_cases with ho | ⟨ho, a, d, hr⟩ | ⟨ho, hr⟩
  · rw [State.failStep_closed ho]
    exact State.firstPhase_congr rfl rfl (by rw [h]; rfl)
  · rw [State.failStep_answered ho hr]
    exact State.firstPhase_congr rfl rfl (by rw [h]; rfl)
  · rw [State.failStep_unanswered ho hr]
    exact State.firstPhase_congr rfl rfl rfl

/-- A step of the loop leaves the run's first phase as it was: the flip makes up for the frame counted. -/
theorem State.loopStep_firstPhase {s : State} {pos : LoopPos} (h : s.osc = .running pos) :
    (s.loopStep pos).firstPhase = s.firstPhase := by
  cases pos with
  | top => exact State.topStep_firstPhase h
  | phase => exact State.phaseStep_firstPhase h
  | sleep => exact State.firstPhase_congr rfl rfl (by rw [h]; rfl)
  | flip => simp [State.loopStep, State.firstPhase, h, OscState.flipPending]
  | finish e => exact State.finishStep_firstPhase h
  | fail c => exact State.failStep_firstPhase h

/-- Settles O46: the start step counts no frame and has no flip pending; then every step of the run keeps the first
phase. -/
theorem phasesAlternate : Obligations.PhasesAlternate := by
  refine ⟨fun s t f d p hf hp h => ?_, fun s t hrun hr h => ?_⟩
  · cases (exec_strobe_of_valid hf hp d s).symm.trans h
    rw [← State.startRun_phase_iff f d p s]
    simp [State.firstPhase, State.startRun, OscState.flipPending]
  · rcases step_running_cases hrun hr h with ⟨hs, -, rfl⟩ | ⟨-, -, rfl⟩ | ⟨-, -, pos, hpos, rfl⟩
    · exact State.firstPhase_congr rfl rfl rfl
    · exact State.firstPhase_congr rfl rfl rfl
    · exact State.loopStep_firstPhase hpos

end Sys2Proof.Machine
end

section
/-! PROOFS. CANCEL is read at the top of an iteration only (43_oscillator.md R198, R204; 60_exceptions.md R240). -/

namespace Sys2Proof.Machine

/-- The state with CANCEL set. -/
def State.cancelled (s : State) : State := { s with cancel := true }

/-! ### The operations a step of a run is made of do the same with CANCEL set -/

theorem State.cancelled_elapse (k : Nat) (s : State) : s.cancelled.elapse k = (s.elapse k).cancelled := rfl

theorem State.cancelled_endPass (s t : State) : s.cancelled.endPass t.cancelled = (s.endPass t).cancelled := rfl

theorem State.cancelled_transmitCore (s : State) :
    s.cancelled.transmitCore = (s.transmitCore.1, s.transmitCore.2.cancelled) := by
  rcases s.write_cases with ho | ⟨ho, a, d, hr⟩ | ⟨ho, hr⟩
  · rw [State.transmitCore_closed ho, State.transmitCore_closed (s := s.cancelled) ho]
  · rw [State.transmitCore_wrote ho hr, State.transmitCore_wrote (s := s.cancelled) ho hr]
    rfl
  · rw [State.transmitCore_unanswered ho hr, State.transmitCore_unanswered (s := s.cancelled) ho hr]
    rfl

theorem phaseDone_cancelled : ∀ p : TxResult × State, phaseDone (p.1, p.2.cancelled) = (phaseDone p).cancelled
  | (.success, _) => rfl
  | (.fail _, _) => rfl
  | (.never, _) => rfl

theorem finishDone_cancelled (e : RunEnd) :
    ∀ p : TxResult × State, finishDone e (p.1, p.2.cancelled) = (finishDone e p).cancelled
  | (.success, _) => rfl
  | (.fail _, _) => rfl
  | (.never, _) => rfl

theorem failDone_cancelled (c : TxCause) :
    ∀ p : TxResult × State, failDone c (p.1, p.2.cancelled) = (failDone c p).cancelled
  | (.success, _) => rfl
  | (.fail _, _) => rfl
  | (.never, _) => rfl

theorem State.cancelled_loopStep {pos : LoopPos} (hpos : pos ≠ .top) (s : State) :
    s.cancelled.loopStep pos = (s.loopStep pos).cancelled := by
  cases pos with
  | top => exact absurd rfl hpos
  | phase => exact (congrArg phaseDone s.loadPhase.cancelled_transmitCore).trans (phaseDone_cancelled _)
  | sleep => rfl
  | flip => rfl
  | finish e => exact (congrArg (finishDone e) s.loadSafe.cancelled_transmitCore).trans (finishDone_cancelled e _)
  | fail c => exact (congrArg (failDone c) s.loadSafe.cancelled_transmitCore).trans (failDone_cancelled c _)

/-! ### The step -/

/-- Settles O47: HOST's moves are taken alike, and so are the loop's at every position but the top. -/
theorem cancelReadOnlyAtTop : Obligations.CancelReadOnlyAtTop := by
  intro s t pos hpos htop hr h
  have hrun : s.osc.isRunning = true := by rw [hpos]; rfl
  show step s.cancelled = .next t.cancelled
  rcases step_running_cases hrun hr h with ⟨hs, hhost, rfl⟩ | ⟨hp, hh, rfl⟩ | ⟨hp, hh, pos', hpos', rfl⟩
  · exact step_cancel (s := s.cancelled) hhost
  · rw [step_hung (s := s.cancelled) hh hp, State.cancelled_elapse, State.cancelled_endPass,
      State.endPass_of_hung s (t := s.elapse 1) hh]
  · cases hpos.symm.trans hpos'
    rw [step_running (s := s.cancelled) hpos hh hp, State.cancelled_loopStep htop, State.cancelled_endPass]

end Sys2Proof.Machine
end

section
/-! PROOFS. The ideal run (43_oscillator.md R205 to R207): one iteration as a whole, then the induction over the
iterations, then the two steps that end the run. -/

namespace Sys2Proof.Machine

/-! ### `N = ceil(DUR / HALF)` -/

theorem State.idealCount_le_iff {s : State} (h : 0 < s.half.toNat) (k : Nat) :
    s.idealCount ≤ k ↔ s.dur.toNat ≤ k * s.half.toNat := by
  rw [State.idealCount, Nat.div_le_iff_le_mul_add_pred h, Nat.mul_comm]
  omega

theorem State.dur_le_idealCount_mul {s : State} (h : 0 < s.half.toNat) :
    s.dur.toNat ≤ s.idealCount * s.half.toNat :=
  (State.idealCount_le_iff h _).1 le_rfl

theorem State.mul_half_lt_dur {s : State} (h : 0 < s.half.toNat) {k : Nat} (hk : k < s.idealCount) :
    k * s.half.toNat < s.dur.toNat :=
  Nat.lt_of_not_le (mt (State.idealCount_le_iff h k).2 (Nat.not_le.2 hk))

/-- Iteration `k ≤ N` starts less than one HALF after DUR. -/
theorem State.mul_half_lt_dur_add_half {s : State} (h : 0 < s.half.toNat) {k : Nat} (hk : k ≤ s.idealCount) :
    k * s.half.toNat < s.dur.toNat + s.half.toNat := by
  cases k with
  | zero => omega
  | succ k =>
    have := State.mul_half_lt_dur h hk
    rw [Nat.succ_mul]
    omega

/-! ### Replies, phases and frames one iteration on -/

theorem GoodReplies.succ {limit : Nat} :
    ∀ {k : Nat} {rs : List TxReply}, GoodReplies limit (k + 1) rs →
      GoodReplies limit k rs ∧ ∃ d rest, d ≤ limit ∧ rs.drop k = .answered (.ok 518) d :: rest
  | 0, .answered (.ok _) d :: rs, ⟨hk, hd, _⟩ => ⟨trivial, d, rs, hd, by rw [hk]; rfl⟩
  | _ + 1, .answered (.ok _) _ :: _, ⟨hk, hd, hrest⟩ =>
    have ⟨hgood, hnext⟩ := GoodReplies.succ hrest
    ⟨⟨hk, hd, hgood⟩, hnext⟩

/-- The phase after `k` flips. -/
def phaseAfter (p : Bool) (k : Nat) : Bool := if k % 2 = 0 then p else !p

theorem phaseAfter_succ (p : Bool) (k : Nat) : phaseAfter p (k + 1) = !phaseAfter p k := by
  unfold phaseAfter
  rcases Nat.mod_two_eq_zero_or_one k with h | h <;> simp [Nat.add_mod, h]

theorem phaseAfter_not (p : Bool) (k : Nat) : phaseAfter (!p) k = !phaseAfter p k := by
  unfold phaseAfter
  split <;> rfl

theorem State.phaseFrames_succ (s : State) (p : Bool) (k : Nat) :
    s.phaseFrames p (k + 1) = s.phaseFrames p k ++ [sentOk (s.snapOf (phaseAfter p k))] := by
  induction k generalizing p with
  | zero => rfl
  | succ k ih => rw [State.phaseFrames, ih (!p), phaseAfter_not, ← phaseAfter_succ]; rfl

/-! ### One iteration -/

/-- A run at the top of an iteration, with no request seen or to come and the handle held. -/
structure State.QuietTop (s : State) : Prop where
  atTop : s.osc = .running .top
  alive : s.hung = false
  quiet : s.host = []
  uncancelled : s.cancel = false
  opened : s.tpOpen = true

theorem State.reply_of_cons {s : State} {r : TxReply} {rs : List TxReply} (h : s.replies = r :: rs) : s.reply = r := by
  simp [State.reply, h]

/-- With no move of HOST to come and a reply listed, a write takes its ticks and the reply, nothing else of the
environment. -/
theorem State.wrote_quiet {s : State} {r : TxReply} {rs : List TxReply} (hq : s.host = []) (hr : s.replies = r :: rs)
    (m : Memory) (a : TxAnswer) (d : Nat) :
    s.wrote m a d = { s with
      now := s.now + BitVec.ofNat 64 d, txLog := s.txLog ++ [.write (universeFrame m) a]
      replies := s.replies.tail } := by
  simp [State.wrote, hq, hr]

/-- The state after the phase frame of an iteration that started in `s`, accepted after `d` ticks. -/
def State.phaseSent (d : Nat) (s : State) : State :=
  { s with
    u := s.snapOf s.phase, titer := s.now, now := s.now + BitVec.ofNat 64 d, osc := .running .sleep
    phaseCnt := s.phaseCnt + 1#32, txLog := s.txLog ++ [sentOk (s.snapOf s.phase)], replies := s.replies.tail }

/-- The state after the sleep of that iteration, HALF ticks after it started. -/
def State.phaseSlept (s : State) : State := { s.phaseSent 0 with now := s.now + s.half, osc := .running .flip }

/-- The top of the next iteration. -/
def State.nextIteration (s : State) : State := s.phaseSlept.flipStep

theorem step_phase_quiet {s : State} {d : Nat} {rs : List TxReply} (hpos : s.osc = .running .phase)
    (hh : s.hung = false) (hq : s.host = []) (ho : s.tpOpen = true) (hr : s.replies = .answered (.ok 518) d :: rs) :
    step s = .next (s.phaseSent d) := by
  rw [step_running_quiet hpos hh hq, State.loopStep, State.phaseStep_accepted ho (State.reply_of_cons hr),
    State.wrote_quiet hq hr]
  rfl

/-- The sleep after a write of `d ≤ HALF` ticks that began at TITER. -/
theorem step_sleep_quiet {s : State} {d : Nat} (hpos : s.osc = .running .sleep) (hh : s.hung = false)
    (hq : s.host = []) (hnow : s.now = s.titer + BitVec.ofNat 64 d) (hd : d ≤ s.half.toNat) :
    step s = .next { s with now := s.titer + s.half, osc := .running .flip } := by
  have hspent : (s.now - s.titer).toNat ≤ s.half.toNat := by
    rw [hnow, add_sub_cancel_left, BitVec.toNat_ofNat]
    exact (Nat.mod_le _ _).trans hd
  rw [step_running_quiet hpos hh hq, State.loopStep, State.sleepStep, State.elapse_of_host_nil hq, State.tick,
    s.now_add_sleepTicks, if_pos hspent]

theorem step_finish_quiet {s : State} {d : Nat} {rs : List TxReply} {e : RunEnd} (hpos : s.osc = .running (.finish e))
    (hh : s.hung = false) (hq : s.host = []) (ho : s.tpOpen = true) (hr : s.replies = .answered (.ok 518) d :: rs) :
    step s = .next { s with
      u := s.snapSafe, now := s.now + BitVec.ofNat 64 d, osc := e.osc, replies := s.replies.tail
      txLog := s.txLog ++ [sentOk s.snapSafe], respLog := s.respLog ++ [⟨.ok, e.byte :: le32 s.phaseCnt⟩] } := by
  rw [step_running_quiet hpos hh hq, State.loopStep, State.finishStep_accepted ho (State.reply_of_cons hr),
    State.wrote_quiet hq hr]
  rfl

/-- Four steps are one iteration: the top, the frame of the phase, the sleep, the flip. -/
theorem State.QuietTop.runFor_four {s : State} {d : Nat} {rs : List TxReply} (h : s.QuietTop)
    (hearly : s.elapsed.toNat < s.dur.toNat) (hr : s.replies = .answered (.ok 518) d :: rs)
    (hd : d ≤ s.half.toNat) : s.runFor 4 = .next s.nextIteration := by
  obtain ⟨hpos, hh, hq, hc, ho⟩ := h
  have top : step s = .next { s with osc := .running .phase } := by
    rw [step_running_quiet hpos hh hq, State.loopStep, State.topStep_of_early hearly hc]
  have phase : step { s with osc := .running .phase } = .next (s.phaseSent d) := step_phase_quiet rfl hh hq ho hr
  have sleep : step (s.phaseSent d) = .next s.phaseSlept := step_sleep_quiet rfl hh hq rfl hd
  have flip : step s.phaseSlept = .next s.nextIteration := step_running_quiet (s := s.phaseSlept) rfl hh hq
  calc s.runFor 4
      = State.runFor 3 { s with osc := .running .phase } := State.runFor_succ top 3
    _ = (s.phaseSent d).runFor 2 := State.runFor_succ phase 2
    _ = s.phaseSlept.runFor 1 := State.runFor_succ sleep 1
    _ = .next s.nextIteration := State.runFor_one flip

/-- Two steps end the run: the top, where the duration has elapsed, and the safe frame. -/
theorem State.QuietTop.runFor_two {s : State} {d : Nat} {rs : List TxReply} (h : s.QuietTop)
    (hdue : s.dur.toNat ≤ s.elapsed.toNat) (hr : s.replies = .answered (.ok 518) d :: rs) :
    s.runFor 2 = .next { s with
      u := s.snapSafe, now := s.now + BitVec.ofNat 64 d, osc := .completed, replies := s.replies.tail
      txLog := s.txLog ++ [sentOk s.snapSafe], respLog := s.respLog ++ [⟨.ok, 3#8 :: le32 s.phaseCnt⟩] } := by
  obtain ⟨hpos, hh, hq, -, ho⟩ := h
  have top : step s = .next { s with osc := .running (.finish .completed) } := by
    rw [step_running_quiet hpos hh hq, State.loopStep, State.topStep_of_due hdue]
  have finish := step_finish_quiet (s := { s with osc := .running (.finish .completed) }) rfl hh hq ho hr
  exact (State.runFor_succ top 1).trans (State.runFor_one finish)

/-! ### The iterations -/

/-- The state at the top of iteration `k` of the ideal run from `s`, but for U and TITER. -/
def State.atIteration (s : State) (k : Nat) (u : Memory) (titer : Ticks) : State :=
  { s with
    u := u, titer := titer
    now := s.t0 + BitVec.ofNat 64 (k * s.half.toNat)
    phase := phaseAfter s.phase k
    phaseCnt := s.phaseCnt + BitVec.ofNat 32 k
    txLog := s.txLog ++ s.phaseFrames s.phase k
    replies := s.replies.drop k }

theorem State.IdealStart.quietTop {s : State} (h : s.IdealStart) (k : Nat) (u : Memory) (titer : Ticks) :
    (s.atIteration k u titer).QuietTop :=
  ⟨h.atTop, h.alive, h.quiet, h.uncancelled, h.opened⟩

/-- The elapsed time at the top of iteration `k ≤ N` does not wrap. -/
theorem State.IdealStart.elapsed_atIteration {s : State} (h : s.IdealStart) {k : Nat} (hk : k ≤ s.idealCount)
    (u : Memory) (titer : Ticks) : (s.atIteration k u titer).elapsed.toNat = k * s.half.toNat := by
  have hlt := State.mul_half_lt_dur_add_half h.halfPos hk
  have hhalf := h.halfBound
  have hdur := h.durBound
  show (s.t0 + BitVec.ofNat 64 (k * s.half.toNat) - s.t0).toNat = _
  rw [add_sub_cancel_left, BitVec.toNat_ofNat]
  exact Nat.mod_eq_of_lt (by omega)

theorem State.IdealStart.atIteration_zero {s : State} (h : s.IdealStart) : s.atIteration 0 s.u s.titer = s := by
  have hnow : s.t0 + BitVec.ofNat 64 (0 * s.half.toNat) = s.now := by simp [h.started]
  rw [State.atIteration, hnow]
  simp [phaseAfter, State.phaseFrames]

theorem add_ofNat_succ_mul_toNat (t half : Ticks) (k : Nat) :
    t + BitVec.ofNat 64 ((k + 1) * half.toNat) = t + BitVec.ofNat 64 (k * half.toNat) + half := by
  rw [Nat.succ_mul, BitVec.ofNat_add, BitVec.ofNat_toNat, BitVec.setWidth_eq, add_assoc]

theorem State.nextIteration_atIteration {s : State} (h : s.osc = .running .top) (k : Nat) (u : Memory) (titer : Ticks) :
    (s.atIteration k u titer).nextIteration =
      s.atIteration (k + 1) (s.snapOf (phaseAfter s.phase k)) (s.atIteration k u titer).now := by
  have hreplies : (s.replies.drop k).tail = s.replies.drop (k + 1) := List.tail_drop
  unfold State.nextIteration State.flipStep State.phaseSlept State.phaseSent State.atIteration
  rw [add_ofNat_succ_mul_toNat, phaseAfter_succ, State.phaseFrames_succ, BitVec.ofNat_add, ← add_assoc,
    ← List.append_assoc, h, hreplies]
  rfl

/-- The induction over the iterations of the ideal run. -/
theorem State.IdealStart.runFor_iterations {s : State} (h : s.IdealStart) {k : Nat} (hk : k ≤ s.idealCount)
    (hgood : GoodReplies s.half.toNat k s.replies) :
    ∃ u titer, s.runFor (4 * k) = .next (s.atIteration k u titer) := by
  induction k with
  | zero => exact ⟨s.u, s.titer, congrArg Host.Outcome.next h.atIteration_zero.symm⟩
  | succ k ih =>
    obtain ⟨hgood, d, rest, hd, hnext⟩ := hgood.succ
    obtain ⟨u, titer, hrun⟩ := ih (Nat.le_of_succ_le hk) hgood
    have hearly : (s.atIteration k u titer).elapsed.toNat < s.dur.toNat := by
      rw [h.elapsed_atIteration (Nat.le_of_succ_le hk)]
      exact State.mul_half_lt_dur h.halfPos hk
    refine ⟨s.snapOf (phaseAfter s.phase k), (s.atIteration k u titer).now, ?_⟩
    calc s.runFor (4 * k + 4)
        = (s.atIteration k u titer).runFor 4 := State.runFor_add hrun 4
      _ = .next (s.atIteration k u titer).nextIteration := (h.quietTop k u titer).runFor_four hearly hnext hd
      _ = _ := congrArg Host.Outcome.next (State.nextIteration_atIteration h.atTop k u titer)

/-- Settles O48: the top of iteration `k` is `atIteration k`. -/
theorem idealIterationStarts : Obligations.IdealIterationStarts := by
  intro s k h hk hgood
  obtain ⟨u, titer, hrun⟩ := h.runFor_iterations hk hgood
  exact ⟨_, hrun, h.atTop, rfl, rfl, rfl, rfl, rfl⟩

/-- Settles O49: at the top of iteration `N` the duration has elapsed, and two more steps end the run. -/
theorem idealRunCompletes : Obligations.IdealRunCompletes := by
  intro s d rest h hgood hlast
  have hdue := State.dur_le_idealCount_mul h.halfPos
  refine ⟨hdue, State.mul_half_lt_dur_add_half h.halfPos le_rfl, ?_⟩
  obtain ⟨u, titer, hrun⟩ := h.runFor_iterations le_rfl hgood
  have hend := (h.quietTop s.idealCount u titer).runFor_two (hdue.trans_eq (h.elapsed_atIteration le_rfl u titer).symm)
    hlast
  refine ⟨_, (State.runFor_add hrun 2).trans hend, rfl, rfl, ?_, rfl, rfl, rfl⟩
  rw [BitVec.ofNat_add, ← add_assoc]
  rfl

end Sys2Proof.Machine
end

section
/-! PROOFS. Every command and every step answers a next state (60_exceptions.md R236, R244). -/

namespace Sys2Proof.Machine

theorem exec_answers (i : Instr) (s : State) : ∃ t, exec i s = .next t := by
  cases i <;> exact ⟨_, rfl⟩

/-- A packet runs as its command, or is refused with a response. -/
theorem runPacket_answers (bs : List Byte) (s : State) : ∃ t, runPacket bs s = .next t := by
  unfold runPacket
  split
  · next i _ => exact exec_answers i s
  · exact ⟨_, rfl⟩

theorem hostStep_answers (s : State) : ∃ t, hostStep s = .next t := by
  unfold hostStep
  split
  · exact ⟨_, rfl⟩
  · next bs hs _ => exact runPacket_answers bs { s with host := hs }
  all_goals exact ⟨_, rfl⟩

theorem busyStep_answers (act : State → State) (s : State) : ∃ t, busyStep act s = .next t := by
  unfold busyStep
  split <;> exact ⟨_, rfl⟩

/-- Settles O12: in each mode the step is the block's move at a busy port or HOST's at a free one. -/
theorem everyStepAnswers : Obligations.EveryStepAnswers := by
  intro s
  unfold step advance
  split
  · exact busyStep_answers _ s
  · split
    · exact busyStep_answers _ s
    all_goals exact hostStep_answers s

end Sys2Proof.Machine
end

section
/-! PROOFS. OutOfRangeError exactly on the conditions of its table (60_exceptions.md R232). -/

namespace Sys2Proof.Machine

/-- From `s` to `t` no OutOfRangeError was raised: E_OOR is kept, and no response to that effect was sent. -/
def State.NotOor (s t : State) : Prop :=
  t.eOor = s.eOor ∧
    (t.respLog = s.respLog ∨ ∃ r : Response, t.respLog = s.respLog ++ [r] ∧ r.status ≠ .outOfRangeError)

/-- A response with another status, from a state that differs from `s` in neither E_OOR nor `resp_log`. -/
theorem State.NotOor.respond {s t : State} {st : Status} {d : List Byte} (hst : st ≠ .outOfRangeError)
    (hoor : t.eOor = s.eOor) (hresp : t.respLog = s.respLog) : s.NotOor (t.respond st d) :=
  ⟨hoor, .inr ⟨⟨st, d⟩, congrArg (· ++ _) hresp, hst⟩⟩

theorem transmitDone_notOor : ∀ p : TxResult × State, p.2.NotOor (transmitDone p)
  | (.success, _) => .respond nofun rfl rfl
  | (.fail _, _) => .respond nofun rfl rfl
  | (.never, _) => ⟨rfl, .inl rfl⟩

/-- A transmission changes neither E_OOR nor `resp_log`, so only what TRANSMIT does with its result counts. -/
theorem State.transmit_notOor (s : State) : s.NotOor (transmitDone s.transmitCore) := by
  have h := transmitDone_notOor s.transmitCore
  rwa [State.NotOor, State.transmitCore_eOor, State.transmitCore_respLog] at h

theorem State.release_eOor (s : State) : s.release.eOor = s.eOor := by
  unfold State.release
  split <;> rfl

theorem State.release_respLog (s : State) : s.release.respLog = s.respLog := by
  unfold State.release
  split <;> rfl

/-- Both directions of the table at once: the two outcomes exclude each other, and so do their conditions. -/
theorem exec_oor_cases {i : Instr} {s t : State} (h : exec i s = .next t) :
    (OutOfRange s i ∧ t = s.afterOor) ∨ (¬ OutOfRange s i ∧ s.NotOor t) := by
  rcases exec_cases h with ⟨rfl, hi⟩ | ⟨rfl, data, rfl⟩ | ⟨d, rfl, hi⟩ | ⟨c, vs, rfl, hi, -⟩ |
    ⟨v, c, n, -, -, rfl, hi⟩ | ⟨rfl, rfl⟩ | ⟨rfl, rfl⟩ | ⟨rfl, rfl⟩ | ⟨rfl, rfl⟩ | ⟨rfl, rfl⟩ | ⟨rfl, rfl⟩ |
    ⟨f, d, p, rfl, hf, hp, rfl⟩
  · exact .inl ⟨hi, rfl⟩
  · exact .inr ⟨id, .respond nofun rfl rfl⟩
  · exact .inr ⟨hi, .respond nofun rfl rfl⟩
  · exact .inr ⟨hi, .respond nofun rfl rfl⟩
  · exact .inr ⟨hi, .respond nofun rfl rfl⟩
  · exact .inr ⟨id, s.transmit_notOor⟩
  · exact .inr ⟨id, .respond nofun s.release_eOor s.release_respLog⟩
  · exact .inr ⟨id, .respond nofun rfl rfl⟩
  · exact .inr ⟨id, .respond nofun rfl rfl⟩
  · exact .inr ⟨id, .respond nofun rfl rfl⟩
  · exact .inr ⟨id, .respond nofun rfl rfl⟩
  · exact .inr ⟨fun hi => hi.elim hf (Nat.not_lt.2 hp), rfl, .inl rfl⟩

/-- Settles O52: a command answers, and its answer is the OutOfRangeError exactly when the table says so. -/
theorem outOfRangeTable : Obligations.OutOfRangeTable := by
  intro i s
  obtain ⟨t, ht⟩ := exec_answers i s
  rcases exec_oor_cases ht with ⟨hi, rfl⟩ | ⟨hi, hnot⟩
  · exact ⟨fun _ => ht, fun hn => absurd hi hn⟩
  · exact ⟨fun h => absurd h hi, fun _ => ⟨t, ht, hnot⟩⟩

end Sys2Proof.Machine
end

section
/-! PROOFS. A write that the transport does not accept whole never leads to OK (60_exceptions.md R237, R249;
43_oscillator.md R199, R202, R203). -/

namespace Sys2Proof.Machine

/-! ### A frame that ends in a response -/

/-- From `s` to `t` one frame of file `m` was to be sent and reported: OK only if it was accepted whole, and
TransmitError, with `failed` besides, after any other answer in `tx_log`. -/
def State.ReportsFrame (s : State) (m : Memory) (failed : Prop) (t : State) : Prop :=
  (∀ d, t.respLog = s.respLog ++ [⟨.ok, d⟩] → t.txLog = s.txLog ++ [sentOk m]) ∧
  (∀ bytes a, t.txLog = s.txLog ++ [.write bytes a] → a ≠ .ok 518 →
    failed ∧ ∃ c, t.respLog = s.respLog ++ [⟨.transmitError, [c]⟩])

section
variable {s t : State} {m : Memory} {failed : Prop}

/-- A step that adds to neither log reports nothing. -/
theorem State.ReportsFrame.silent (htx : t.txLog = s.txLog) (hresp : t.respLog = s.respLog) :
    s.ReportsFrame m failed t :=
  ⟨fun d h => by simp [hresp] at h, fun bytes a h => by simp [htx] at h⟩

theorem State.ReportsFrame.accepted (htx : t.txLog = s.txLog ++ [sentOk m]) : s.ReportsFrame m failed t := by
  refine ⟨fun _ _ => htx, fun bytes a h ha => ?_⟩
  obtain ⟨-, rfl⟩ : universeFrame m = bytes ∧ TxAnswer.ok 518 = a := by simpa [htx, sentOk] using h
  exact absurd rfl ha

/-- Whether or not a write was attempted. -/
theorem State.ReportsFrame.refused (hfailed : failed) {c : Byte}
    (hresp : t.respLog = s.respLog ++ [⟨.transmitError, [c]⟩]) : s.ReportsFrame m failed t :=
  ⟨fun d h => by simp [hresp] at h, fun _ _ _ _ => ⟨hfailed, c, hresp⟩⟩

end

/-- TRANSMIT reports the frame of the universe. -/
theorem State.transmit_reportsFrame (s : State) : s.ReportsFrame s.u True (transmitDone s.transmitCore) := by
  rcases s.write_cases with ho | ⟨ho, a, d, hr⟩ | ⟨ho, hr⟩
  · rw [State.transmitCore_closed ho]
    exact .refused trivial rfl
  · rw [State.transmitCore_wrote ho hr]
    split
    · next ha => subst ha; exact .accepted rfl
    · exact .refused trivial rfl
  · rw [State.transmitCore_unanswered ho hr]
    exact .silent rfl rfl

/-- The final frame reports the frame of SAFE, and a failure ends the run as Failed. -/
theorem State.finishStep_reportsFrame (s : State) (e : RunEnd) :
    s.ReportsFrame s.snapSafe ((s.finishStep e).osc = .failed) (s.finishStep e) := by
  rcases s.write_cases with ho | ⟨ho, a, d, hr⟩ | ⟨ho, hr⟩
  · rw [State.finishStep_closed ho]
    exact .refused rfl rfl
  · by_cases ha : a = .ok 518
    · subst ha
      rw [State.finishStep_accepted ho hr]
      exact .accepted rfl
    · rw [State.finishStep_refused ho hr ha]
      exact .refused rfl rfl
  · rw [State.finishStep_unanswered ho hr]
    exact .silent rfl rfl

/-! ### The phase frame, which is counted and not reported -/

/-- From `s` to `t` one phase frame was to be sent and counted: PHASECNT moves only if it was accepted whole, and any
other answer in `tx_log` leads to the fail path with its cause. -/
def State.CountsFrame (s t : State) : Prop :=
  (t.phaseCnt ≠ s.phaseCnt → t.txLog = s.txLog ++ [sentOk t.u]) ∧ t.respLog = s.respLog ∧
  (∀ bytes a, t.txLog = s.txLog ++ [.write bytes a] → a ≠ .ok 518 →
    t.osc = .running (.fail (failCause a)) ∧ t.phaseCnt = s.phaseCnt)

/-- A step that neither counts nor writes. -/
theorem State.CountsFrame.silent {s t : State} (htx : t.txLog = s.txLog) (hresp : t.respLog = s.respLog)
    (hcnt : t.phaseCnt = s.phaseCnt) : s.CountsFrame t :=
  ⟨absurd hcnt, hresp, fun bytes a h => by simp [htx] at h⟩

theorem State.phaseStep_countsFrame (s : State) : s.CountsFrame s.phaseStep := by
  rcases s.write_cases with ho | ⟨ho, a, d, hr⟩ | ⟨ho, hr⟩
  · rw [State.phaseStep_closed ho]
    exact .silent rfl rfl rfl
  · by_cases ha : a = .ok 518
    · subst ha
      rw [State.phaseStep_accepted ho hr]
      refine ⟨fun _ => rfl, rfl, fun bytes a h hne => ?_⟩
      obtain ⟨-, rfl⟩ : universeFrame (s.snapOf s.phase) = bytes ∧ TxAnswer.ok 518 = a := by
        simpa [State.wrote] using h
      exact absurd rfl hne
    · rw [State.phaseStep_refused ho hr ha]
      refine ⟨absurd rfl, rfl, fun bytes b h _ => ?_⟩
      obtain ⟨-, rfl⟩ : universeFrame (s.snapOf s.phase) = bytes ∧ a = b := by simpa [State.wrote] using h
      exact ⟨rfl, rfl⟩
  · rw [State.phaseStep_unanswered ho hr]
    exact .silent rfl rfl rfl

/-! ### The fail path, whose one response is TransmitError -/

/-- The fail path answers TransmitError and ends, or waits in a write that never returns. -/
theorem State.failStep_reports (s : State) (c : TxCause) :
    ((s.failStep c).osc = s.osc ∧ (s.failStep c).respLog = s.respLog) ∨
      ((s.failStep c).osc = .failed ∧ (s.failStep c).respLog = s.respLog ++ [⟨.transmitError, [c.byte]⟩]) := by
  rcases s.write_cases with ho | ⟨ho, a, d, hr⟩ | ⟨ho, hr⟩
  · rw [State.failStep_closed ho]
    exact .inr ⟨rfl, rfl⟩
  · rw [State.failStep_answered ho hr]
    exact .inr ⟨rfl, rfl⟩
  · rw [State.failStep_unanswered ho hr]
    exact .inl ⟨rfl, rfl⟩

/-! ### The statement -/

/-- A step of a run that is no reset is the loop's move at its position, or it leaves the position, PHASECNT and both
logs: a cancel request, or time inside a write that never returns. -/
theorem step_at_cases {s t : State} {pos : LoopPos} (hpos : s.osc = .running pos)
    (hr : s.host.head? ≠ some .reset) (h : step s = .next t) :
    t = s.endPass (s.loopStep pos) ∨
    (t.osc = s.osc ∧ t.phaseCnt = s.phaseCnt ∧ t.txLog = s.txLog ∧ t.respLog = s.respLog) := by
  rcases step_running_cases (by rw [hpos]; rfl) hr h with ⟨hs, -, rfl⟩ | ⟨-, -, rfl⟩ | ⟨-, -, pos', hpos', rfl⟩
  · exact .inr ⟨rfl, rfl, rfl, rfl⟩
  · exact .inr ⟨rfl, rfl, rfl, rfl⟩
  · cases hpos.symm.trans hpos'
    exact .inl rfl

/-- Settles O45: what each transmission reports or counts, at TRANSMIT and at the three positions of the loop that
transmit; `endPass` touches HOST's moves only. -/
theorem failedWriteNeverReportsOk : Obligations.FailedWriteNeverReportsOk := by
  refine ⟨fun s t h => ?_, fun s t hpos h hr => ?_, fun s t c hpos h hr => ?_, fun s t e hpos h hr => ?_⟩
  · cases (exec_transmit s).symm.trans h
    obtain ⟨hok, hfail⟩ := s.transmit_reportsFrame
    exact ⟨hok [], fun bytes a htx ha => (hfail bytes a htx ha).2⟩
  · rcases step_at_cases hpos hr h with rfl | ⟨-, hcnt, htx, hresp⟩
    · exact s.phaseStep_countsFrame
    · exact State.CountsFrame.silent htx hresp hcnt
  · rcases step_at_cases hpos hr h with rfl | ⟨hosc, -, -, hresp⟩
    · exact s.failStep_reports c
    · exact .inl ⟨hosc, hresp⟩
  · rcases step_at_cases hpos hr h with rfl | ⟨-, -, htx, hresp⟩
    · exact s.finishStep_reportsFrame e
    · exact State.ReportsFrame.silent htx hresp

end Sys2Proof.Machine
end

section
/-! PROOFS. Commands take no time, the block waits for HOST, and the reset input (70_reset_and_hazards.md R260, R271,
R273). -/

namespace Sys2Proof.Machine

/-! ### Commands and time -/

/-- What time and the environment own of the state: `NOW`, the write outstanding, HOST's moves and the transport's
replies. -/
def State.environment (s : State) : Ticks × Bool × List HostMove × List TxReply × Nat :=
  (s.now, s.hung, s.host, s.replies, s.drawn)

theorem State.environment_eq_iff {s t : State} :
    t.environment = s.environment ↔
      t.now = s.now ∧ t.hung = s.hung ∧ t.host = s.host ∧ t.replies = s.replies ∧ t.drawn = s.drawn := by
  simp only [State.environment, Prod.mk.injEq]

@[simp] theorem State.release_environment (s : State) : s.release.environment = s.environment := by
  unfold State.release
  split <;> rfl

/-- Of the commands only TRANSMIT waits for the transport. -/
theorem exec_environment {i : Instr} {s t : State} (hi : i ≠ .transmit) (h : exec i s = .next t) :
    t.environment = s.environment := by
  rcases exec_cases h with ⟨rfl, -⟩ | ⟨rfl, -⟩ | ⟨d, rfl, -⟩ | ⟨c, vs, rfl, -⟩ | ⟨v, c, n, -, -, rfl, -⟩ |
    ⟨htx, -⟩ | ⟨-, rfl⟩ | ⟨-, rfl⟩ | ⟨-, rfl⟩ | ⟨-, rfl⟩ | ⟨-, rfl⟩ | ⟨f, d, p, -, -, -, rfl⟩
  · rfl
  · rfl
  · rfl
  · rfl
  · rfl
  · exact absurd htx hi
  · exact s.release_environment
  all_goals rfl

/-- Settles O59: what time and the environment own, field by field. -/
theorem commandsTakeNoTime : Obligations.CommandsTakeNoTime := by
  intro i s t hi h
  obtain ⟨hnow, hhung, hhost, hreplies, hdrawn⟩ := State.environment_eq_iff.1 (exec_environment hi h)
  exact ⟨hnow, hreplies, hdrawn, hhung, hhost⟩

/-! ### A free port and no packet -/

theorem step_idle {s : State} (hfree : s.PortFree) (hhost : s.host = []) : step s = .next (s.tick 1) := by
  rw [advance_portFree hfree, hostStep, hhost]

theorem step_wait {s : State} {n : Nat} {hs : List HostMove} (hfree : s.PortFree) (hhost : s.host = .wait n :: hs) :
    step s = .next (State.tick n { s with host := hs }) := by
  rw [advance_portFree hfree, hostStep, hhost]

theorem step_pass {s : State} {hs : List HostMove} (hfree : s.PortFree) (hhost : s.host = .pass :: hs) :
    step s = .next { s with host := hs } := by
  rw [advance_portFree hfree, hostStep, hhost]

/-- Settles O17: the step at a free port for each of HOST's moves that asks nothing of the block. -/
theorem quiescentOnlyCounts : Obligations.QuiescentOnlyCounts :=
  ⟨fun _ ⟨hfree, hhost⟩ => step_idle hfree hhost, fun _ _ _ => step_wait, fun _ _ => step_pass⟩

/-! ### The reset input -/

/-- The reset input is taken in every mode, at the port, in a run or inside a write (log entry 5). -/
theorem step_reset {s : State} {hs : List HostMove} (h : s.host = .reset :: hs) :
    step s = .next (State.resetInput { s with host := hs }) := by
  unfold step advance busyStep hostStep
  rw [h]
  split
  · rfl
  · split <;> rfl

theorem State.resetInput_views (s : State) : s.resetInput.views = List.replicate s.nview View.empty := rfl

/-- Settles O16: but for the parameters and the environment, `resetInput` does not read the state it is applied to. -/
theorem resetInputRestores : Obligations.ResetInputRestores := by
  intro s hs h
  obtain ⟨-, hlen⟩ := State.parameters_eq_iff.1 (State.resetInput_parameters { s with host := hs })
  refine ⟨_, step_reset h, hlen, rfl, fun w hw => ?_⟩
  rw [State.resetInput_views] at hw
  exact List.eq_of_mem_replicate hw

end Sys2Proof.Machine
end

section
/-! PROOFS. A write that the transport never answers holds the block until a reset (70_reset_and_hazards.md R275). -/

namespace Sys2Proof.Machine

/-! ### The steps that enter the write -/

theorem exec_transmit_unanswered {s : State} (ho : s.tpOpen = true) (hr : s.reply = .never) :
    exec .transmit s = .next s.unanswered := by
  rw [exec_transmit, State.transmitCore_unanswered ho hr]
  rfl

/-- A move of the loop that enters such a write is a whole step: a pass of HOST that stands first stays. -/
theorem step_running_of_hung {s t : State} {pos : LoopPos} (hpos : s.osc = .running pos) (hh : s.hung = false)
    (hp : s.HostPassive) (ht : s.loopStep pos = t) (hhung : t.hung = true) : step s = .next t := by
  rw [step_running hpos hh hp, ht, State.endPass_of_hung s hhung]

/-! ### The steps inside the write -/

/-- The write outstanding goes on, so no pass of HOST ends. -/
theorem step_hung_passive {s : State} (hh : s.hung = true) (hp : s.HostPassive) : step s = .next (s.elapse 1) := by
  rw [step_hung hh hp, State.endPass_of_hung s (s.elapse_hung 1 ▸ hh)]

/-- Everything a step inside the write can do but a reset: latch a cancel request or count one tick. -/
theorem step_hung_cases {s t : State} (hh : s.hung = true) (hr : s.host.head? ≠ some .reset) (h : step s = .next t) :
    (∃ hs, s.host = .cancel :: hs ∧ t = State.latchCancel true { s with host := hs }) ∨
    (s.HostPassive ∧ t = s.elapse 1) := by
  by_cases hc : s.host.head? = some .cancel
  · obtain ⟨hs, hhost⟩ := List.head?_eq_some_iff.1 hc
    cases (step_cancel hhost).symm.trans h
    exact .inl ⟨hs, hhost, rfl⟩
  · cases (step_hung_passive hh ⟨hc, hr⟩).symm.trans h
    exact .inr ⟨⟨hc, hr⟩, rfl⟩

/-! ### The statement -/

/-- Settles O29: each write that can hang, by the move that makes it, then the two steps inside it. -/
theorem unansweredWriteHangs : Obligations.UnansweredWriteHangs := by
  refine ⟨fun s => exec_transmit_unanswered, fun s hh hp ho hr => ⟨fun hpos => ?_, fun e hpos => ?_, fun c hpos => ?_⟩,
    fun s => step_hung_passive, fun s t hh hr h => ?_⟩
  · exact step_running_of_hung hpos hh hp (State.phaseStep_unanswered ho hr) rfl
  · exact step_running_of_hung hpos hh hp (State.finishStep_unanswered ho hr e) rfl
  · exact step_running_of_hung hpos hh hp (State.failStep_unanswered ho hr c) rfl
  · rcases step_hung_cases hh hr h with ⟨hs, -, rfl⟩ | ⟨-, rfl⟩
    · exact ⟨hh, rfl, rfl, rfl⟩
    · exact ⟨hh, rfl, rfl, rfl⟩

end Sys2Proof.Machine
end
